-- ==== Sys2Proof/Word.lean ====
section
/-! DEFINITION. The word types of the serial fields, and the plainest arithmetic over counts. -/

namespace Sys2Proof

/-- One byte of a serial frame or a display transaction. -/
abbrev Byte := BitVec 8

/-- A value of the 1 µs pulse clock (chapter 1): 32 bits, wrapping. -/
abbrev Clock := BitVec 32

/-- An opaque token of an authorizer (Table 3-3). -/
abbrev Token := BitVec 32

/-- The length a timer has left, in µs; `none` is a stopped timer. -/
abbrev Timer := Option Nat

/-- A count that stops at its upper limit (0.7, Arithmetic). -/
def satAdd (limit a b : Nat) : Nat := min limit (a + b)

/-- Clamp to a range (0.7, Arithmetic). -/
def clampNat (lo hi n : Nat) : Nat := min hi (max lo n)

/-- Clamp to a range of whole numbers (0.7, Arithmetic). -/
def clampInt (lo hi n : Int) : Int := min hi (max lo n)

/-- Milliseconds, seconds and minutes in µs. -/
def ms (n : Nat) : Nat := n * 1000
def sec (n : Nat) : Nat := n * 1000000
def minutes (n : Nat) : Nat := n * 60000000

end Sys2Proof
end

