-- ==== Sys2Proof/Syntax.lean ====
section
/-! DEFINITION. The names of the part, and its commands: one constructor of `Instr` for each row of
spec/opcode_table.json, with the fields its message, frame or event carries. -/

namespace Sys2Proof

/-- The two fueling points. -/
inductive Fp where
  | fp1 | fp2
  deriving DecidableEq, Repr

/-- The four meters (Table 1-1). -/
inductive Meter where
  | m1 | m2 | m3 | m4
  deriving DecidableEq, Repr

/-- The two outputs of a pulser. -/
inductive Channel where
  | a | b
  deriving DecidableEq, Repr

/-- The two base products: the low and high valve of a fueling point. -/
inductive Product where
  | low | high
  deriving DecidableEq, Repr

/-- The three nozzles of a fueling point. -/
inductive Nozzle where
  | n1 | n2 | n3
  deriving DecidableEq, Repr

/-- The six grades. -/
inductive Grade where
  | g1 | g2 | g3 | g4 | g5 | g6
  deriving DecidableEq, Repr

/-- The two product pumps (3.9). -/
inductive Pump where
  | pumpL | pumpH
  deriving DecidableEq, Repr

/-- The four display modules (Table 5-1): FP1 main, FP2 main, FP1 panel, FP2 panel. -/
inductive ModuleId where
  | mod1 | mod2 | mod3 | mod4
  deriving DecidableEq, Repr

/-- The three fields of a module, in table order (Table 5-2). -/
inductive FieldPos where
  | f1 | f2 | f3
  deriving DecidableEq, Repr

/-- The two main-display fields whose staleness is watched (R105). -/
inductive WatchedField where
  | money | volume
  deriving DecidableEq, Repr

/-- The two standings inside the part (0.7, Sides). -/
inductive Side where
  | control | reader
  deriving DecidableEq, Repr

/-- The price level of an authorization (Table 3-3). -/
inductive Level where
  | level1 | level2
  deriving DecidableEq, Repr

/-- Two values, one for each fueling point. -/
structure PerFp (α : Type) where
  fp1 : α
  fp2 : α
  deriving DecidableEq, Repr

/-- Four values, one for each meter. -/
structure PerMeter (α : Type) where
  m1 : α
  m2 : α
  m3 : α
  m4 : α
  deriving DecidableEq, Repr

/-- Two values, one for each pump, or for each product. -/
structure PerPump (α : Type) where
  pumpL : α
  pumpH : α
  deriving DecidableEq, Repr

/-- Three values, one for each nozzle of a fueling point. -/
structure PerNozzle (α : Type) where
  n1 : α
  n2 : α
  n3 : α
  deriving DecidableEq, Repr

/-- Six values, one for each grade. -/
structure PerGrade (α : Type) where
  g1 : α
  g2 : α
  g3 : α
  g4 : α
  g5 : α
  g6 : α
  deriving DecidableEq, Repr

/-- Four values, one for each display module. -/
structure PerModule (α : Type) where
  mod1 : α
  mod2 : α
  mod3 : α
  mod4 : α
  deriving DecidableEq, Repr

/-- Three values, one for each field of a module. -/
structure PerField (α : Type) where
  f1 : α
  f2 : α
  f3 : α
  deriving DecidableEq, Repr

/-- One grade entry of STAGE_PRICES as sent (Table 10-7). -/
structure RawPrice where
  priced : Byte
  level1 : BitVec 16
  level2 : BitVec 16
  deriving DecidableEq, Repr

/-- What a row carries, and the level of METSW as it is taken: whether the metrology switch is closed (R192, R197). -/
structure WithSwitch (α : Type) where
  content      : α
  switchClosed : Bool
  deriving DecidableEq, Repr

/-- One day entry of SET_SCHEDULE as sent (Table 10-5). -/
structure RawDay where
  kind   : Byte
  opens  : BitVec 24
  closes : BitVec 24
  deriving DecidableEq, Repr

/-- The seven day entries of a schedule, Monday to Sunday. -/
structure PerDay (α : Type) where
  mon : α
  tue : α
  wed : α
  thu : α
  fri : α
  sat : α
  sun : α
  deriving DecidableEq, Repr

/-- The requests of the control link, one constructor for each kind code of Tables 10-5 to 10-10, with
the fields of its payload at their widths. -/
inductive Request where
  | getStatus (part : Byte)
  | getNotices
  | clearNotices (mask : BitVec 24)
  | setTime (day : BitVec 16) (seconds : BitVec 24)
  | siteOpen
  | siteClose
  | restart (force : Byte)
  | setSchedule (mode : Byte) (days : PerDay RawDay)
  | setNoticeEnables (mask : BitVec 24)
  | authorize (fp limitKind : Byte) (limitValue : BitVec 32) (level grades : Byte) (expiry : BitVec 16) (token : Token)
  | cancelAuth (fp : Byte)
  | stopFp (fp : Byte)
  | fpStatus (fp : Byte)
  | clearLock (fp : Byte)
  | clearFault (target : Byte)
  | stagePrices (activation : Byte) (seconds : BitVec 24) (entries : PerGrade RawPrice)
  | cancelPrices
  | priceStatus
  | readSale (selector : Byte) (value : BitVec 32)
  | settleSale (seq : BitVec 32) (token : Token)
  | takeOver (seq : BitVec 32)
  | journalStatus
  | readTotals (part : Byte)
  | readerStatus
  | readerRelease
  | readerPowerCycle
  | sendToReader (text : List Byte)
  | abortToReader
  | readPassthrough
  | clearOverrun
  | setReaderPolicy (kinds fps : Byte) (ceiling : BitVec 32) (autoCycle : Byte)
  | enterSetup
  | leaveSetup
  | setItem (item index : Byte) (value : BitVec 32)
  | getItem (item index : Byte)
  | setMeter (meter : Byte) (cf : BitVec 32)
  | readAudit (skip : Byte)
  | displayTest (module : Byte)
  deriving DecidableEq, Repr

/-- The commands of the part: one constructor for each row of spec/opcode_table.json, in its order. -/
inductive Instr where
  /-- Supply first applied, or PCOLL asserted (R179). `clockLost`: both supplies of the time of day were lost (R160). -/
  | powerOnReset (clockLost : Bool)
  | resetPin
  /-- The reset ends; `straps` are BAUDSEL1 and BAUDSEL0 as sampled (R199). -/
  | resetEnd (straps : BitVec 2)
  | recoveryStageEnd
  /-- The line of an input changes to `level`, `elapsed` µs after the last command that carried a time. -/
  | meterInputEdge (meter : Meter) (input : Channel) (level : Bool) (elapsed : BitVec 32)
  | rateBinTimerExpiry
  | recentFlagExpiry (meter : Meter)
  | valveIntervalExpiry (fp : Fp) (valve : Product)
  | nozzleSwitchChange (fp : Fp) (nozzle : Nozzle) (up : Bool)
  | nozzleLift (fp : Fp) (nozzle : Nozzle)
  | nozzleHang (fp : Fp) (nozzle : Nozzle)
  | authExpiry (fp : Fp)
  | noFlowExpiry (fp : Fp)
  | runOutExpiry (fp : Fp)
  | inrushGapExpiry
  | pumpFeedbackAsserted (pump : Pump)
  | pumpFeedbackReleased (pump : Pump)
  | pumpFeedbackTimerExpiry (pump : Pump)
  | pumpPrimeExpiry (pump : Pump)
  | pumpRunOnExpiry (pump : Pump)
  | timeOfDayStep
  | closeGraceExpiry
  | stageSettleExpiry
  | heatTimerExpiry
  /-- The once-a-second reading of the ambient sensor, in whole °C. -/
  | ambientReading (celsius : Int)
  | creepWatchExpiry
  | holdTimerExpiry (fp : Fp)
  | powerWarning
  | powerWarningRelease
  | readerCycleExpiry
  | autoCycleHoldoffExpiry
  | readerWaitingExpiry
  | exchangeTimerExpiry
  | readerFrameSent
  | readerAnswerWindowClose
  | readerReceiveError
  | readerIdle (fp : Byte)
  | authReq (fp : Byte) (token : Token) (limitKind : Byte) (limitValue : BitVec 32) (level grades : Byte) (expiry : BitVec 16)
  | authCancel (fp : Byte) (token : Token)
  | saleQuery (fp : Byte)
  | settle (fp : Byte) (seq : BitVec 32) (token : Token)
  | prompt (fp : Byte) (text : List Byte)
  | textAck (fp number : Byte)
  | fieldUpdateStart
  /-- A WRITE ends; `acked`: the module acknowledged the address and every byte (R94). -/
  | displayWriteEnd (acked : Bool)
  /-- A CHECK ends; `none`: the address was not acknowledged; otherwise the check byte and the status byte (R95). -/
  | displayCheckEnd (answer : Option (Byte × Byte))
  | busError
  /-- A recovery ends, with the data line found released or still low after the ninth pulse (R101). -/
  | busRecoveryEnd (released : Bool)
  | fieldStale (fp : Fp) (field : WatchedField)
  | storeWriteComplete
  /-- A gap over 20 ms within a frame; `late` is the byte that came after it (R201). -/
  | controlByteTimeout (late : Byte)
  /-- The byte after the sync byte is no length (R201). -/
  | controlLengthReject (length : Byte)
  /-- The last byte of a frame arrives: the bytes after its sync byte (length, kind, payload, CRC). -/
  | controlFrameComplete (bytes : WithSwitch (List Byte))
  | replySent
  | getStatus (part : WithSwitch Byte)
  | getNotices
  | clearNotices (mask : BitVec 24)
  | setTime (day : BitVec 16) (seconds : BitVec 24)
  | siteOpen
  | siteClose
  | restart (force : Byte)
  | setSchedule (mode : Byte) (days : PerDay RawDay)
  | setNoticeEnables (mask : BitVec 24)
  | authorize (fp limitKind : Byte) (limitValue : BitVec 32) (level grades : Byte) (expiry : BitVec 16) (token : Token)
  | cancelAuth (fp : Byte)
  | stopFp (fp : Byte)
  | fpStatus (fp : Byte)
  | clearLock (fp : Byte)
  | clearFaultMeter (meter : Byte)
  | clearFaultPump (pump : Pump)
  | stagePricesAt (seconds : BitVec 24) (entries : PerGrade RawPrice)
  | stagePricesNow (seconds : BitVec 24) (entries : PerGrade RawPrice)
  | cancelPrices
  | priceStatus
  | readSale (selector : Byte) (value : BitVec 32)
  | settleSale (seq : BitVec 32) (token : Token)
  | takeOver (seq : BitVec 32)
  | journalStatus
  | readTotals (part : Byte)
  | readerStatus
  | readerRelease
  | readerPowerCycle
  | sendToReader (text : List Byte)
  | abortToReader
  | readPassthrough
  | clearOverrun
  | setReaderPolicy (kinds fps : Byte) (ceiling : BitVec 32) (autoCycle : Byte)
  | enterSetup
  | leaveSetup
  | setItem (item index : Byte) (value : BitVec 32)
  | getItem (item index : Byte)
  /-- SET_METER, with the level of METSW when it is judged (`switchClosed`, R192). -/
  | setMeter (meter : Byte) (cf : BitVec 32) (switchClosed : Bool)
  | readAudit (skip : Byte)
  | displayTest (module : Byte)
  | controlSyncByte
  deriving DecidableEq, Repr

end Sys2Proof
end

