-- ==== Sys2Proof/Decode.lean ====
section
/-! DEFINITION. The commands spelled by a word. No row of the opcode table gives bits: a command of this part
is a message, a frame, an event on a pin or the expiry of a timer. The bytes of control messages and reader
frames are decoded in Machine/Layouts.lean. -/

namespace Sys2Proof

/-- The command a word spells by the table's bits: none, for every row has an empty list of fields. -/
def decodeTableWord (_nbits _w : Nat) : Option Instr := none

end Sys2Proof
end

