-- ==== Sys2Proof/Config.lean ====
section
/-! DEFINITION. What the manual leaves free: constants with no body, so that nothing can be proved of
their values. -/

namespace Sys2Proof

/-- The unit price a sale would take from an unpriced grade entry. R77 says no sale meets one, so the
manual states no value: a free value. UNVERIFIED, safe (assumption 15). -/
opaque Config.unpricedPrice : Grade → Level → Nat

/-- What a price panel field is to show for a nozzle whose grade is unpriced in the current set: a number
or blank. R85 and R90 give the panel "the level-1 price of the grade" and state no value when there is none:
a free value. UNVERIFIED, safe (assumption 15). -/
opaque Config.unpricedPanel : Grade → Option Nat

end Sys2Proof
end

