-- ==== Sys2Proof/Machine/Index.lean ====
section
/-! DEFINITION. Reading and writing the one of several like things that a name picks, and the numbers
the manual gives the names. -/

namespace Sys2Proof

/-- Both fueling points, in the order FP1, FP2. -/
def Fp.all : List Fp := [.fp1, .fp2]
/-- All meters, M1 to M4. -/
def Meter.all : List Meter := [.m1, .m2, .m3, .m4]
/-- All nozzles of a fueling point. -/
def Nozzle.all : List Nozzle := [.n1, .n2, .n3]
/-- All grades, G1 to G6. -/
def Grade.all : List Grade := [.g1, .g2, .g3, .g4, .g5, .g6]
/-- Both pumps, PUMP-L before PUMP-H (R68). -/
def Pump.all : List Pump := [.pumpL, .pumpH]
/-- All modules, 1 to 4. -/
def ModuleId.all : List ModuleId := [.mod1, .mod2, .mod3, .mod4]
/-- The fields of a module in table order (Table 5-2). -/
def FieldPos.all : List FieldPos := [.f1, .f2, .f3]

def PerFp.get {α : Type} (p : PerFp α) : Fp → α
  | .fp1 => p.fp1
  | .fp2 => p.fp2

def PerFp.set {α : Type} (p : PerFp α) (i : Fp) (x : α) : PerFp α :=
  match i with
  | .fp1 => { p with fp1 := x }
  | .fp2 => { p with fp2 := x }

def PerFp.both {α : Type} (x : α) : PerFp α := ⟨x, x⟩

def PerFp.map {α β : Type} (f : α → β) (p : PerFp α) : PerFp β := ⟨f p.fp1, f p.fp2⟩

def PerMeter.get {α : Type} (p : PerMeter α) : Meter → α
  | .m1 => p.m1
  | .m2 => p.m2
  | .m3 => p.m3
  | .m4 => p.m4

def PerMeter.set {α : Type} (p : PerMeter α) (i : Meter) (x : α) : PerMeter α :=
  match i with
  | .m1 => { p with m1 := x }
  | .m2 => { p with m2 := x }
  | .m3 => { p with m3 := x }
  | .m4 => { p with m4 := x }

def PerMeter.four {α : Type} (x : α) : PerMeter α := ⟨x, x, x, x⟩

def PerMeter.map {α β : Type} (f : α → β) (p : PerMeter α) : PerMeter β := ⟨f p.m1, f p.m2, f p.m3, f p.m4⟩

def PerPump.get {α : Type} (p : PerPump α) : Pump → α
  | .pumpL => p.pumpL
  | .pumpH => p.pumpH

def PerPump.set {α : Type} (p : PerPump α) (i : Pump) (x : α) : PerPump α :=
  match i with
  | .pumpL => { p with pumpL := x }
  | .pumpH => { p with pumpH := x }

def PerPump.map {α β : Type} (f : α → β) (p : PerPump α) : PerPump β := ⟨f p.pumpL, f p.pumpH⟩

def PerNozzle.get {α : Type} (p : PerNozzle α) : Nozzle → α
  | .n1 => p.n1
  | .n2 => p.n2
  | .n3 => p.n3

def PerNozzle.set {α : Type} (p : PerNozzle α) (i : Nozzle) (x : α) : PerNozzle α :=
  match i with
  | .n1 => { p with n1 := x }
  | .n2 => { p with n2 := x }
  | .n3 => { p with n3 := x }

def PerNozzle.map {α β : Type} (f : α → β) (p : PerNozzle α) : PerNozzle β := ⟨f p.n1, f p.n2, f p.n3⟩

def PerGrade.get {α : Type} (p : PerGrade α) : Grade → α
  | .g1 => p.g1
  | .g2 => p.g2
  | .g3 => p.g3
  | .g4 => p.g4
  | .g5 => p.g5
  | .g6 => p.g6

def PerGrade.set {α : Type} (p : PerGrade α) (i : Grade) (x : α) : PerGrade α :=
  match i with
  | .g1 => { p with g1 := x }
  | .g2 => { p with g2 := x }
  | .g3 => { p with g3 := x }
  | .g4 => { p with g4 := x }
  | .g5 => { p with g5 := x }
  | .g6 => { p with g6 := x }

/-- The six values a function of the grade gives. -/
def PerGrade.of {α : Type} (f : Grade → α) : PerGrade α := ⟨f .g1, f .g2, f .g3, f .g4, f .g5, f .g6⟩

def PerModule.get {α : Type} (p : PerModule α) : ModuleId → α
  | .mod1 => p.mod1
  | .mod2 => p.mod2
  | .mod3 => p.mod3
  | .mod4 => p.mod4

def PerModule.set {α : Type} (p : PerModule α) (i : ModuleId) (x : α) : PerModule α :=
  match i with
  | .mod1 => { p with mod1 := x }
  | .mod2 => { p with mod2 := x }
  | .mod3 => { p with mod3 := x }
  | .mod4 => { p with mod4 := x }

def PerModule.four {α : Type} (x : α) : PerModule α := ⟨x, x, x, x⟩

def PerModule.map {α β : Type} (f : α → β) (p : PerModule α) : PerModule β := ⟨f p.mod1, f p.mod2, f p.mod3, f p.mod4⟩

def PerField.get {α : Type} (p : PerField α) : FieldPos → α
  | .f1 => p.f1
  | .f2 => p.f2
  | .f3 => p.f3

def PerField.set {α : Type} (p : PerField α) (i : FieldPos) (x : α) : PerField α :=
  match i with
  | .f1 => { p with f1 := x }
  | .f2 => { p with f2 := x }
  | .f3 => { p with f3 := x }

def PerField.map {α β : Type} (f : α → β) (p : PerField α) : PerField β := ⟨f p.f1, f p.f2, f p.f3⟩

/-- The entry of weekday `n mod 7`, 0 for Monday (R160). -/
def PerDay.get {α : Type} (p : PerDay α) (n : Nat) : α :=
  match n % 7 with
  | 0 => p.mon
  | 1 => p.tue
  | 2 => p.wed
  | 3 => p.thu
  | 4 => p.fri
  | 5 => p.sat
  | _ => p.sun

def PerDay.toList {α : Type} (p : PerDay α) : List α := [p.mon, p.tue, p.wed, p.thu, p.fri, p.sat, p.sun]

def PerDay.map {α β : Type} (f : α → β) (p : PerDay α) : PerDay β :=
  ⟨f p.mon, f p.tue, f p.wed, f p.thu, f p.fri, f p.sat, f p.sun⟩

/-- The other fueling point. -/
def Fp.other : Fp → Fp
  | .fp1 => .fp2
  | .fp2 => .fp1

/-- The number a fueling point has in messages and frames: 1 or 2. -/
def Fp.number : Fp → Nat
  | .fp1 => 1
  | .fp2 => 2

/-- The fueling point a field of a message names, if it is 1 or 2. -/
def Fp.ofNumber? (n : Nat) : Option Fp :=
  match n with
  | 1 => some .fp1
  | 2 => some .fp2
  | _ => none

/-- The fueling point of a meter (Table 1-1). -/
def Meter.fp : Meter → Fp
  | .m1 => .fp1
  | .m2 => .fp1
  | .m3 => .fp2
  | .m4 => .fp2

/-- The base product of a meter (Table 1-1): acc_L for M1 and M3, acc_H for M2 and M4. -/
def Meter.product : Meter → Product
  | .m1 => .low
  | .m2 => .high
  | .m3 => .low
  | .m4 => .high

/-- The meter of a fueling point and base product (Table 1-1). -/
def Fp.meter : Fp → Product → Meter
  | .fp1, .low => .m1
  | .fp1, .high => .m2
  | .fp2, .low => .m3
  | .fp2, .high => .m4

def Meter.number : Meter → Nat
  | .m1 => 1
  | .m2 => 2
  | .m3 => 3
  | .m4 => 4

def Meter.ofNumber? (n : Nat) : Option Meter :=
  match n with
  | 1 => some .m1
  | 2 => some .m2
  | 3 => some .m3
  | 4 => some .m4
  | _ => none

def Grade.number : Grade → Nat
  | .g1 => 1
  | .g2 => 2
  | .g3 => 3
  | .g4 => 4
  | .g5 => 5
  | .g6 => 6

def Grade.ofNumber? (n : Nat) : Option Grade :=
  match n with
  | 1 => some .g1
  | 2 => some .g2
  | 3 => some .g3
  | 4 => some .g4
  | 5 => some .g5
  | 6 => some .g6
  | _ => none

/-- The index of a nozzle in the hose map of its fueling point: 1 to 3. -/
def Nozzle.number : Nozzle → Nat
  | .n1 => 1
  | .n2 => 2
  | .n3 => 3

def ModuleId.number : ModuleId → Nat
  | .mod1 => 1
  | .mod2 => 2
  | .mod3 => 3
  | .mod4 => 4

def ModuleId.ofNumber? (n : Nat) : Option ModuleId :=
  match n with
  | 1 => some .mod1
  | 2 => some .mod2
  | 3 => some .mod3
  | 4 => some .mod4
  | _ => none

/-- The module after this one in the rotation 1, 2, 3, 4, 1 (R93). -/
def ModuleId.succ : ModuleId → ModuleId
  | .mod1 => .mod2
  | .mod2 => .mod3
  | .mod3 => .mod4
  | .mod4 => .mod1

/-- The fueling point of a module (Table 5-1). -/
def ModuleId.fp : ModuleId → Fp
  | .mod1 => .fp1
  | .mod2 => .fp2
  | .mod3 => .fp1
  | .mod4 => .fp2

/-- Whether a module is a price panel (Table 5-1). -/
def ModuleId.isPanel : ModuleId → Bool
  | .mod1 => false
  | .mod2 => false
  | .mod3 => true
  | .mod4 => true

/-- The main display of a fueling point. -/
def Fp.main : Fp → ModuleId
  | .fp1 => .mod1
  | .fp2 => .mod2

/-- The price panel of a fueling point. -/
def Fp.panel : Fp → ModuleId
  | .fp1 => .mod3
  | .fp2 => .mod4

/-- The field id sent in a WRITE (Table 5-2). -/
def FieldPos.id : FieldPos → Nat
  | .f1 => 1
  | .f2 => 2
  | .f3 => 3

/-- The field of a main display that the watch names. -/
def WatchedField.pos : WatchedField → FieldPos
  | .money => .f1
  | .volume => .f2

/-- The panel field of a nozzle: NOZ1, NOZ2 or NOZ3. -/
def Nozzle.field : Nozzle → FieldPos
  | .n1 => .f1
  | .n2 => .f2
  | .n3 => .f3

/-- The other side. -/
def Side.other : Side → Side
  | .control => .reader
  | .reader => .control

end Sys2Proof
end

