-- ==== Sys2Proof/Machine/Blocks.lean ====
section
/-! DEFINITION. The plain data of every block: the tables of state of chapters 1 to 10. -/

namespace Sys2Proof.Machine

/-- The result codes (Table 10-2). -/
inductive Result where
  | ok | okClamped | okReplaced | already | busy | wrongState | notPermitted | badField | noEntry
  | journalFull | gradeNotAllowed | unknownKind | badLength | frameError
  deriving DecidableEq, Repr

/-- Site time with its valid flag (0.7, Time). -/
structure Stamp where
  day     : Nat
  seconds : Nat
  valid   : Bool
  deriving DecidableEq, Repr

/-- The limit of an authorization (Table 3-3): cl for VOLUME, cents for MONEY. -/
inductive Limit where
  | none
  | volume (cl : Nat)
  | money (cents : Nat)
  deriving DecidableEq, Repr

/-! ### Chapter 1: meters -/

/-- Why a meter last became FAULTY (Table 1-2). -/
inductive MeterCause where
  | none | channelA | channelB | reverse
  deriving DecidableEq, Repr

/-- State of one meter channel (Table 1-2), with the creep watch count of W4 (R171). -/
structure Channels where
  faulty      : Bool
  cause       : MeterCause
  levelA      : Bool
  levelB      : Bool
  lastEdgeA   : Clock
  lastEdgeB   : Clock
  aRun        : Nat
  bRun        : Nat
  backlash    : Nat
  noise       : Nat
  reverse     : Nat
  lastForward : Clock
  recent      : Bool
  recentTimer : Timer
  lastBRise   : Option Clock
  bin0        : Nat
  bin1        : Nat
  bin2        : Nat
  bin3        : Nat
  creep       : Nat
  creepRaised : Bool
  watchCount  : Nat
  deriving DecidableEq, Repr

/-- The cause of an audit sample (Table 1-6). -/
inductive SampleCause where
  | first | noSale | runOut | fast | slow
  deriving DecidableEq, Repr

/-- An audit sample (Table 1-5). -/
structure Sample where
  meter    : Meter
  time     : Stamp
  interval : Nat
  phase    : Nat
  seq      : Option Nat
  cause    : SampleCause
  deriving DecidableEq, Repr

/-- The meter input unit: four channels, the pulse clock, the bin timer and the audit sampler. -/
structure Miu where
  clock     : Clock
  meters    : PerMeter Channels
  binTimer  : Timer
  lfsr      : BitVec 16
  countdown : Nat
  ring      : Vector (Option Sample) 16
  newest    : Fin 16
  count     : Nat
  deriving DecidableEq, Repr

/-! ### Chapters 2 and 3: sales and fueling points -/

/-- Fueling point states (Table 3-2). -/
inductive FpState where
  | closed | idle | calling | armed | starting | fueling | stopping | ended | locked
  deriving DecidableEq, Repr

/-- The closed causes of a fueling point (R43). -/
structure ClosedCauses where
  site     : Bool
  setup    : Bool
  notSetUp : Bool
  cold     : Bool
  display  : Bool
  deriving DecidableEq, Repr

/-- The names of the closed causes. -/
inductive ClosedCause where
  | site | setup | notSetUp | cold | display
  deriving DecidableEq, Repr

/-- A set of lock causes (R63). -/
structure LockCauses where
  meter   : Bool
  display : Bool
  blend   : Bool
  totals  : Bool
  deriving DecidableEq, Repr

/-- Why a start is held back (Table 3-1). -/
inductive Waiting where
  | none | nozzleConflict | wrongNozzle | priceWait
  deriving DecidableEq, Repr

/-- Why the valves closed (Table 3-5). -/
inductive StopCause where
  | nozzleHung | preset | ceiling | noFlow | controlStop | readerStop | pumpFail | closing | meterFault
  | displayFault | blendFault
  deriving DecidableEq, Repr

/-- End reasons, in the order of Table 3-6. -/
inductive EndReason where
  | nozzleHung | presetReached | ceiling | noFlow | controlStop | readerStop | pumpFail | meterFault
  | displayFault | blendFault | closing | powerLoss | interrupted
  deriving DecidableEq, Repr

/-- Causes of a drop, in the order of Table 3-4. -/
inductive DropCause where
  | expired | cancelled | controlCancel | fenced | power | closing | fault
  deriving DecidableEq, Repr

/-- Record flags (Table 3-7). -/
structure RecordFlags where
  saturated     : Bool
  presetOverrun : Bool
  presetShort   : Bool
  blendDev      : Bool
  extraNozzle   : Bool
  toppedUp      : Bool
  holdShown     : Bool
  deriving DecidableEq, Repr

/-- The phase of a sale with open valves (Table 2-1). -/
inductive Phase where
  | fast | slow | topUp
  deriving DecidableEq, Repr

/-- Close kinds (R26). -/
inductive CloseKind where
  | preset | ceiling
  deriving DecidableEq, Repr

/-- Sale registers (Table 2-1), with the sale's grade, its t (R33) and the duties held at the last
valve closure (R35), and whether its nozzle was hung in a run-out of it (R60). -/
structure Sale where
  grade        : Grade
  level        : Level
  t            : Nat
  accL         : Nat
  accH         : Nat
  volume       : Nat
  volumeCl     : Nat
  money        : Nat
  price        : Nat
  limit        : Limit
  target       : Nat
  slowPoint    : Nat
  closePoint   : Nat
  closeKind    : CloseKind
  an           : Nat
  phase        : Option Phase
  topUpDone    : Bool
  presetClosed : Bool
  dutyL        : Nat
  dutyH        : Nat
  heldPhase    : Option Phase
  heldL        : Nat
  heldH        : Nat
  hung         : Bool
  deltaL       : Nat
  deltaH       : Nat
  flags        : RecordFlags
  overShort    : Option Nat
  deriving DecidableEq, Repr

/-- Authorization record (Table 3-3). -/
structure Auth where
  owner    : Side
  token    : Token
  limit    : Limit
  level    : Level
  grades   : BitVec 6
  expiry   : Nat
  accepted : Stamp
  slot     : Fin 32
  seq      : Nat
  deriving DecidableEq, Repr

/-- One period of a valve output (R38): the loaded duty, and the interval it is in. -/
structure ValvePeriod where
  duty : Nat
  high : Bool
  left : Timer
  deriving DecidableEq, Repr

/-- The last-sale hold display of a fueling point (R107): none, not yet shown clean, shown. -/
inductive HoldDisplay where
  | none | pending | shown
  deriving DecidableEq, Repr

/-- Fueling point context (Table 3-1). -/
structure Fpc where
  state         : FpState
  closedCauses  : ClosedCauses
  lockCauses    : LockCauses
  noted         : LockCauses
  lockAfterSale : Bool
  waiting       : Waiting
  nozzleUp      : PerNozzle Bool
  saleNozzle    : Option Nozzle
  auth          : Option Auth
  expiryTimer   : Timer
  stopCause     : Option StopCause
  noFlowTimer   : Timer
  runOutTimer   : Timer
  appliedGen    : Nat
  lastEnd       : Option EndReason
  sale          : Option Sale
  valveL        : Option ValvePeriod
  valveH        : Option ValvePeriod
  hold          : HoldDisplay
  deriving DecidableEq, Repr

/-! ### Chapter 3: pumps -/

inductive PumpState where
  | off | queued | starting | priming | running | runOn | failed
  deriving DecidableEq, Repr

inductive PumpCause where
  | none | noFeedback | feedbackLost | stuck
  deriving DecidableEq, Repr

/-- Pump record (Table 3-9). -/
structure PumpRec where
  state         : PumpState
  demand        : Nat
  cause         : PumpCause
  feedbackTimer : Timer
  primeTimer    : Timer
  runOnTimer    : Timer
  deriving DecidableEq, Repr

/-- The pump start gate: the records, the start queue, and the µs since the last contactor start. -/
structure Psg where
  pumps      : PerPump PumpRec
  queue      : List Pump
  sinceStart : Nat
  deriving DecidableEq, Repr

/-! ### Chapter 4: prices -/

/-- The two prices of a priced grade (Table 4-2), in mils per litre. -/
structure GradePrice where
  level1 : Nat
  level2 : Nat
  deriving DecidableEq, Repr

/-- A price set (Table 4-2); an unpriced grade is `none`. -/
abbrev PriceSet := PerGrade (Option GradePrice)

/-- A pending set with its AT activation, in seconds of day (R79). -/
structure PendingPrices where
  set       : PriceSet
  atSeconds : Nat
  deriving DecidableEq, Repr

/-- The price unit (Table 4-1); the applied generations are in the fueling point contexts. -/
structure Pru where
  current       : PriceSet
  generation    : Nat
  pendingSet    : Option PendingPrices
  adoptionDue   : PerFp Bool
  panelVerified : PerFp (Option Nat)
  deriving DecidableEq, Repr

/-! ### Chapter 5: displays -/

/-- A wanted value: a number or blank (Table 5-4). -/
inductive Wanted where
  | number (n : Nat)
  | blank
  deriving DecidableEq, Repr

/-- A display field table entry (Table 5-4). Verified values are digit codes, as R91 compares them. -/
structure Field where
  wanted        : Wanted
  dirty         : Bool
  verified      : Option (List Byte)
  dirtySince    : Option Clock
  staleReported : Bool
  deriving DecidableEq, Repr

inductive ModuleState where
  | unknown | ok | failed
  deriving DecidableEq, Repr

inductive TestStage where
  | none | pattern | values
  deriving DecidableEq, Repr

/-- A module record (Table 5-5) with the module's three fields. -/
structure Module where
  address : Nat
  state   : ModuleState
  stage   : TestStage
  fields  : PerField Field
  deriving DecidableEq, Repr

inductive Transaction where
  | write | check
  deriving DecidableEq, Repr

/-- The field update in progress (Table 5-5). -/
structure Update where
  module  : ModuleId
  field   : FieldPos
  written : List Byte
  try2    : Bool
  doing   : Transaction
  deriving DecidableEq, Repr

/-- Bus states. `resume` is the field update a bus error interrupted, to be made again (R101);
`attempt` marks a recovery attempt on a stuck bus (R102). -/
inductive Bus where
  | idle (resume : Option (ModuleId × FieldPos))
  | busy (u : Update)
  | recovering (attempt : Bool) (resume : Option (ModuleId × FieldPos))
  | stuck
  deriving DecidableEq, Repr

/-- The display bus controller (Table 5-5). -/
structure Dbc where
  modules   : PerModule Module
  bus       : Bus
  rotation  : ModuleId
  blanked   : Bool
  heldTests : PerModule Bool
  deriving DecidableEq, Repr

/-! ### Chapter 6: the reader -/

inductive LinkState where
  | off | waiting | absent | active | warning | fenced | recovering
  deriving DecidableEq, Repr

/-- State of a slot's entry (Table 7-1); FREE is the absence of an entry. -/
inductive EntryState where
  | reserved | active | unsettled | settled
  deriving DecidableEq, Repr

inductive SettledBy where
  | control | reader | takeOver
  deriving DecidableEq, Repr

/-- The items of a SALE_REPORT with result OK (R130). -/
structure SaleReport where
  seq       : Nat
  state     : EntryState
  token     : Token
  limit     : Limit
  level     : Level
  sale      : Option (Grade × Nat × Nat × Nat)
  reason    : Option EndReason
  flags     : RecordFlags
  settledBy : Option SettledBy
  deriving DecidableEq, Repr

/-- Frames to the reader (Table 6-4). A reply carries the fueling point byte of its request, in a BAD_FIELD reply to one
above 2 too: DESIGN CHOICE, unsafe (assumption 63). -/
inductive ReaderFrame where
  | poll
  | authReply (fp : Byte) (result : Result) (token : Token) (granted : Option (Nat × Nat × Nat))
  | cancelReply (fp : Byte) (result : Result) (token : Token)
  | saleReport (fp : Byte) (result : Result) (report : Option SaleReport)
  | settleReply (fp : Byte) (result : Result) (seq : Nat)
  | hostText (number : Nat) (text : List Byte)
  | saleDone (fp : Fp) (seq : Nat)
  | authEnded (fp : Fp) (seq : Nat) (cause : DropCause)
  deriving DecidableEq, Repr

/-- An entry of the outgoing queue: a frame, or the place reserved for a reply (R126). -/
inductive OutEntry where
  | frame (f : ReaderFrame)
  | reserved
  deriving DecidableEq, Repr

/-- The exchange in flight: the frame is being sent, or its answer is awaited (R114). -/
structure Exchange where
  frame : ReaderFrame
  sent  : Bool
  deriving DecidableEq, Repr

inductive TextStage where
  | none | queued | sent
  deriving DecidableEq, Repr

inductive Completion where
  | none | pending | sentOk | failed | aborted
  deriving DecidableEq, Repr

/-- Reader policy (R138). -/
structure Policy where
  authReq    : Bool
  authCancel : Bool
  saleQuery  : Bool
  settle     : Bool
  prompt     : Bool
  textAck    : Bool
  fps        : PerFp Bool
  ceiling    : Nat
  autoCycle  : Bool
  deriving DecidableEq, Repr

/-- A prompt entry of the pass-through queue (R136). -/
structure PromptEntry where
  fp   : Byte
  text : List Byte
  deriving DecidableEq, Repr

/-- The reader isolation unit (Table 6-1); its domain item is the sequencer's. -/
structure Riu where
  link          : LinkState
  sendErrors    : Nat
  recvErrors    : Nat
  goodRun       : Nat
  exchangeTimer : Timer
  slowPace      : Bool
  exchange      : Option Exchange
  waitingTimer  : Timer
  holdoff       : Timer
  queue         : List OutEntry
  lostPushes    : Nat
  rejected      : Nat
  textStage     : TextStage
  textNumber    : Nat
  answersSeen   : Nat
  completion    : Completion
  textCounter   : Nat
  passThrough   : List PromptEntry
  overrun       : Bool
  policy        : Policy
  deriving DecidableEq, Repr

/-! ### Chapter 7: the journal -/

/-- The fields of an entry present from STARTING (Table 7-2). -/
structure SaleFields where
  grade      : Grade
  price      : Nat
  generation : Nat
  target     : Nat
  start      : Stamp
  volume     : Nat
  money      : Nat
  accL       : Nat
  accH       : Nat
  deriving DecidableEq, Repr

/-- A journal entry (Table 7-2). -/
structure Entry where
  state     : EntryState
  seq       : Nat
  fp        : Fp
  owner     : Side
  token     : Token
  limit     : Limit
  level     : Level
  sale      : Option SaleFields
  ended     : Option (Stamp × EndReason)
  flags     : RecordFlags
  overShort : Option Nat
  settled   : Option (SettledBy × Stamp)
  deriving DecidableEq, Repr

/-- The totalizer block (Table 7-5). -/
structure Totals where
  meterVolume     : PerMeter Nat
  unassigned      : PerMeter Nat
  gradeVolume     : PerGrade Nat
  gradeMoney      : PerGrade Nat
  saleCount       : PerFp Nat
  calibrations    : Nat
  lastCalibration : Option Stamp
  deriving DecidableEq, Repr

/-- The name of an entry: its slot and sequence number. -/
structure EntryRef where
  slot : Fin 32
  seq  : Nat
  deriving DecidableEq, Repr

/-- The sale journal and totalizer store. The next sequence number 4,294,967,296 stands for exhausted (R143). -/
structure Sj where
  slots          : Vector (Option Entry) 32
  nextSeq        : Nat
  totals         : Totals
  checkWord      : BitVec 16
  anticipation   : PerFp Nat
  holdCandidates : PerFp (Option EntryRef)
  totalsCorrupt  : Bool
  lowArmed       : Bool
  holdEntries    : PerFp (Option EntryRef)
  deriving DecidableEq, Repr

/-! ### Chapter 8: site power -/

inductive SeqState where
  | recovering | night | waking | opened | closing | shutting | frozen
  deriving DecidableEq, Repr

inductive Stage where
  | none | w0 | w1 | w2 | w3 | w4 | w5 | s1 | s2 | s3 | s4 | s5
  deriving DecidableEq, Repr

inductive FrozenFrom where
  | none | opened | closing | waking | shutting
  deriving DecidableEq, Repr

inductive ResumeStage where
  | none | w1 | w2
  deriving DecidableEq, Repr

inductive WarmUp where
  | none | powering | testing
  deriving DecidableEq, Repr

inductive Domain where
  | on | off | cycling
  deriving DecidableEq, Repr

inductive ResetCause where
  | powerOn | pin | restart
  deriving DecidableEq, Repr

/-- A day entry of the schedule (R162). -/
inductive DayEntry where
  | openAllDay
  | closedAllDay
  | window (opens closes : Nat)
  deriving DecidableEq, Repr

/-- The schedule (R162). -/
structure Schedule where
  auto : Bool
  days : PerDay DayEntry
  deriving DecidableEq, Repr

/-- The site power sequencer (Table 8-1). -/
structure Sps where
  seq            : SeqState
  stage          : Stage
  stageTimer     : Timer
  awaiting       : PerModule Bool
  frozenFrom     : FrozenFrom
  resume         : ResumeStage
  wantedOpen     : Bool
  time           : Stamp
  stepTimer      : Timer
  schedule       : Schedule
  closeGrace     : Timer
  heater         : Bool
  heatTimer      : Timer
  cold           : Bool
  warmUp         : WarmUp
  warmTimer      : Timer
  ambient        : Int
  pulserSupply   : Bool
  displaySupply  : Bool
  domain         : Domain
  cycleTimer     : Timer
  warning        : Bool
  warnedInRecovery : Bool
  holdTimers     : PerFp Timer
  opened         : Bool
  lastReset      : ResetCause
  interruptedCount : Nat
  freedCount     : Nat
  deriving DecidableEq, Repr

/-! ### Chapter 9: settings -/

/-- The settings of the image (Table 9-2). A grade share of UNUSED and a nozzle mapped to none are `none`. -/
structure Image where
  cf            : PerMeter Nat
  share         : PerGrade (Option Nat)
  hose          : PerFp (PerNozzle (Option Grade))
  fastDuty      : Nat
  slowDuty      : Nat
  valvePeriod   : Nat
  slowdown      : Nat
  an0           : Nat
  runOut        : Nat
  noFlow        : Nat
  defaultExpiry : Nat
  window        : Nat
  gain          : Nat
  bt1           : Nat
  bt2           : Nat
  prime         : Nat
  runOn         : Nat
  inrushGap     : Nat
  feedback      : Nat
  address       : PerModule Nat
  ht            : Int
  heatLimit     : Nat
  settle        : Nat
  hold          : Nat
  closeGrace    : Nat
  lowThreshold  : Nat
  nightWatch    : Bool
  auditEnable   : Bool
  auditSeed     : Nat
  sac           : Nat
  auditMeters   : PerMeter Bool
  deriving DecidableEq, Repr

/-- The items of the stored record before its check word (R186). -/
structure StoredItems where
  image      : Image
  schedule   : Schedule
  policy     : Policy
  prices     : PriceSet
  generation : Nat
  deriving DecidableEq, Repr

/-- The stored record: its items and its check word (R186). The word is `none` in a store that has never been written
and after a write that a reset cut short: whatever such a store holds, it is no word that passes the check (R186,
R187). -/
structure StoredRecord where
  items : StoredItems
  check : Option (BitVec 16)
  deriving DecidableEq, Repr

/-- A store write in progress: the items it took when it began, and how many writes wait behind it. -/
structure StoreWrite where
  items  : StoredItems
  queued : Nat
  deriving DecidableEq, Repr

/-- The setup store (Table 9-1); the mode is SETUP exactly while there is an edit image. -/
structure Sus where
  image        : Image
  edit         : Option Image
  settingsLost : Bool
  stored       : StoredRecord
  writing      : Option StoreWrite
  deriving DecidableEq, Repr

/-! ### Chapter 10: notices and the control link -/

/-- Notice kinds (Table 10-4), in priority order. -/
inductive NoticeKind where
  | powerFreeze | powerUp | totalsCorrupt | settingsLost | metrology | fpLocked | pumpFail | meterFault
  | displayFault | readerFenced | readerWarn | readerRecovered | journalLow | saleDone | authEnded
  | priceApplied | passthroughReady | passthroughOverrun | siteState | heatTimeout | nightFlow | meterCreep
  | auditRegular | timeInvalid
  deriving DecidableEq, Repr

/-- One notice kind (R206). -/
structure Notice where
  pending : Bool
  count   : Nat
  fps     : PerFp Bool
  enable  : Bool
  deriving DecidableEq, Repr

/-- The notice unit: 24 kinds in the order of Table 10-4. -/
structure Nu where
  kinds : Vector Notice 24
  deriving DecidableEq, Repr

/-! ### Replies: the items each rule lists -/

/-- Part SITE of GET_STATUS (R184, R197, Table 10-3). -/
structure SiteStatus where
  seq           : SeqState
  stage         : Stage
  frozenFrom    : FrozenFrom
  resume        : ResumeStage
  wantedOpen    : Bool
  time          : Stamp
  auto          : Bool
  warning       : Bool
  ambient       : Int
  heater        : Bool
  cold          : Bool
  warmUp        : WarmUp
  pulserSupply  : Bool
  displaySupply : Bool
  domain        : Domain
  closeGrace    : Timer
  heatTimer     : Timer
  stageTimer    : Timer
  cycleTimer    : Timer
  holdTimers    : PerFp Timer
  lastReset     : ResetCause
  interrupted   : Nat
  freed         : Nat
  setupMode     : Bool
  settingsLost  : Bool
  metsw         : Bool
  rate          : Nat
  linkErrors    : Nat
  attn          : Bool
  kindsPending  : Nat
  deriving DecidableEq, Repr

/-- The bus states (Table 5-5). -/
inductive BusState where
  | idle | busy | recovering | stuck
  deriving DecidableEq, Repr

/-- Part DISPLAY of GET_STATUS (R111): the bus state, and for each module its address, state, stage, and for
each field its dirty flag and whether a verified value is present. -/
structure DisplayStatus where
  bus     : BusState
  modules : PerModule (Nat × ModuleState × TestStage × PerField (Bool × Bool))
  deriving DecidableEq, Repr

/-- One pump in part PUMPS of GET_STATUS (Table 10-3). -/
structure PumpStatus where
  state    : PumpState
  demand   : Nat
  cause    : PumpCause
  feedback : Bool
  timer    : Timer
  deriving DecidableEq, Repr

/-- Meter items of FP_STATUS (Table 1-7). -/
structure MeterStatus where
  faulty   : Bool
  cause    : MeterCause
  backlash : Nat
  flow     : Nat
  noise    : Nat
  reverse  : Nat
  deriving DecidableEq, Repr

/-- Sale items of FP_STATUS (Table 2-6). -/
structure SaleStatus where
  volume     : Nat
  volumeCl   : Nat
  money      : Nat
  accL       : Nat
  accH       : Nat
  price      : Nat
  limit      : Limit
  target     : Nat
  closeKind  : CloseKind
  slowPoint  : Nat
  closePoint : Nat
  an         : Nat
  phase      : Option Phase
  topUpDone  : Bool
  dutyL      : Nat
  dutyH      : Nat
  share      : Option Nat
  flags      : RecordFlags
  overShort  : Option Nat
  deriving DecidableEq, Repr

/-- The authorization items of FP_STATUS (Table 3-8). -/
structure AuthStatus where
  owner      : Side
  token      : Token
  limit      : Limit
  level      : Level
  grades     : BitVec 6
  expiryLeft : Timer
  slot       : Fin 32
  seq        : Nat
  deriving DecidableEq, Repr

/-- Fueling point items of FP_STATUS (Table 3-8) with the meter and sale items. -/
structure FpStatus where
  state         : FpState
  closedCauses  : ClosedCauses
  lockCauses    : LockCauses
  lockAfterSale : Bool
  waiting       : Waiting
  nozzleUp      : PerNozzle Bool
  saleNozzle    : Option Nozzle
  auth          : Option AuthStatus
  stopCause     : Option StopCause
  appliedGen    : Nat
  lastEnd       : Option EndReason
  low           : MeterStatus
  high          : MeterStatus
  sale          : Option SaleStatus
  deriving DecidableEq, Repr

/-- When a pending set becomes current (Table 4-1). A set staged NOW is activated as it is taken (R79), so a pending
set that a reply can report is always AT. -/
inductive Activation where
  | now | timed
  deriving DecidableEq, Repr

/-- The pending set in PRICE_STATUS (R89): its activation kind, its value for AT, its prices, the generation it will
take. -/
structure PendingStatus where
  activation : Activation
  atSeconds  : Nat
  set        : PriceSet
  generation : Nat
  deriving DecidableEq, Repr

/-- PRICE_STATUS (R89). -/
structure PriceStatus where
  generation    : Nat
  current       : PriceSet
  pendingSet    : Option PendingStatus
  timeValid     : Bool
  appliedGen    : PerFp Nat
  adoptionDue   : PerFp Bool
  panelVerified : PerFp (Option Nat)
  deriving DecidableEq, Repr

/-- JOURNAL_STATUS (R151). -/
structure JournalStatus where
  free             : Nat
  reserved         : Nat
  active           : Nat
  unsettled        : Nat
  unsettledControl : Nat
  unsettledReader  : Nat
  settled          : Nat
  nextSeq          : Nat
  exhausted        : Bool
  oldestUnsettled  : Option Nat
  oldestSettled    : Option Nat
  threshold        : Nat
  lowArmed         : Bool
  deriving DecidableEq, Repr

/-- READER_STATUS (R139). -/
structure ReaderStatus where
  link        : LinkState
  sendErrors  : Nat
  recvErrors  : Nat
  goodRun     : Nat
  domain      : Domain
  holdoff     : Timer
  queued      : Nat
  lostPushes  : Nat
  rejected    : Nat
  completion  : Completion
  textNumber  : Nat
  textStage   : TextStage
  passThrough : Nat
  overrun     : Bool
  policy      : Policy
  deriving DecidableEq, Repr

/-- One item of the GET_NOTICES reply (R208). -/
structure NoticeItem where
  number : Nat
  count  : Nat
  fps    : PerFp Bool
  enable : Bool
  deriving DecidableEq, Repr

/-- What a reply carries after its result code. -/
inductive Body where
  | none
  | site (s : SiteStatus)
  | display (d : DisplayStatus)
  | pumps (p : PerPump PumpStatus) (queue : List Pump) (gapLeft : Option Nat)
  | schedule (s : Schedule)
  | notices (items : List NoticeItem)
  | weekday (n : Nat)
  | granted (seq : Nat) (slot : Fin 32) (limit : Limit) (expiry : Nat)
  | fpStatus (s : FpStatus)
  | lockCause (c : LockCauses)
  | newState (s : FpState)
  | generation (g : Nat)
  | faultyGrade (n : Nat)
  | prices (s : PriceStatus)
  | entry (slot : Fin 32) (e : Entry)
  | journal (s : JournalStatus)
  | totalsMeters (volumeMl unassignedMl : PerMeter Nat)
  | totalsGrades (volume money : PerGrade Nat)
  | totalsOther (counts : PerFp Nat) (calibrations : Nat) (last : Option Stamp) (an : PerFp Nat) (corrupt : Bool)
  | reader (s : ReaderStatus)
  | textNumber (n : Nat)
  | promptRead (p : PromptEntry) (left : Nat)
  | itemIndex (item index : Nat)
  | stored (value : Int)
  | item (inForce : Int) (edited : Option Int)
  | samples (newest : Fin 16) (count : Nat) (items : List Sample)
  deriving DecidableEq, Repr

/-- A reply: its kind byte, its result code and what it carries (R202). -/
structure Reply where
  kind   : Byte
  result : Result
  body   : Body
  deriving DecidableEq, Repr

inductive Receiver where
  | hunting | receiving
  deriving DecidableEq, Repr

/-- The outstanding request (Table 10-1) with its reply. `request` is `none` for a frame that names no
message; `awaitWrites` counts the store writes the reply waits for (R186); `restarts`: the reset follows
the reply (R181). -/
structure Outstanding where
  request     : Option Request
  reply       : Reply
  awaitWrites : Nat
  restarts    : Bool
  deriving DecidableEq, Repr

/-- What is on the line CTX (R203, Table 10-11). -/
inductive Sending where
  | nothing | reply | held
  deriving DecidableEq, Repr

/-- The control link port (Table 10-1). -/
structure Clp where
  rate        : Nat
  receiver    : Receiver
  buffer      : List Byte
  outstanding : Option Outstanding
  held        : Option Reply
  sending     : Sending
  linkErrors  : Nat
  deriving DecidableEq, Repr

/-- The input pins (Table 0-3) and the nozzle switch debounce. -/
structure Pins where
  lineA    : PerMeter Bool
  lineB    : PerMeter Bool
  switchUp : PerFp (PerNozzle Bool)
  debounce : PerFp (PerNozzle Timer)
  feedback : PerPump Bool
  pwarn    : Bool
  metsw    : Bool
  deriving DecidableEq, Repr

end Sys2Proof.Machine
end

