-- ==== Sys2Proof/Machine/Bytes.lean ====
section
/-! DEFINITION. Byte order of the serial fields (R200) and the two check sums: CRC-16 (R154, R186, R201)
and CRC-8 (R115). -/

namespace Sys2Proof

/-- The `n` bytes of a number, most significant byte first (R200); higher bits are dropped. -/
def bytesBE : Nat → Nat → List Byte
  | 0, _ => []
  | n + 1, v => BitVec.ofNat 8 (v / 256 ^ n) :: bytesBE n v

/-- The number that bytes spell, most significant byte first (R200). -/
def natOfBytes (bs : List Byte) : Nat := bs.foldl (fun acc b => acc * 256 + b.toNat) 0

/-- One bit of a CRC of width `w`, most significant bit first, no reflection. -/
def crcShift (w : Nat) (poly : BitVec w) (c : BitVec w) : BitVec w :=
  if c.msb then (c <<< 1) ^^^ poly else c <<< 1

/-- Take `n` bits of a CRC. -/
def crcShifts (w : Nat) (poly : BitVec w) : Nat → BitVec w → BitVec w
  | 0, c => c
  | n + 1, c => crcShifts w poly n (crcShift w poly c)

/-- One byte of the CRC-16: polynomial 1021h, most significant bit first. -/
def crc16Byte (c : BitVec 16) (b : Byte) : BitVec 16 :=
  crcShifts 16 0x1021#16 8 (c ^^^ ((b.zeroExtend 16) <<< 8))

/-- CRC-16: polynomial 1021h, initial value FFFFh, no final exclusive-or (R154, R186, R201). -/
def crc16 (bs : List Byte) : BitVec 16 := bs.foldl crc16Byte 0xFFFF#16

/-- One byte of the CRC-8: polynomial 07h. -/
def crc8Byte (c : BitVec 8) (b : Byte) : BitVec 8 := crcShifts 8 0x07#8 8 (c ^^^ b)

/-- CRC-8: polynomial 07h, initial value 00h (R115). -/
def crc8 (bs : List Byte) : BitVec 8 := bs.foldl crc8Byte 0x00#8

end Sys2Proof
end

