-- ==== Sys2Proof/Machine/TotalsBlock.lean ====
section
/-! DEFINITION. The totalizer block as bytes, and its retention check word (R154). -/

namespace Sys2Proof.Machine

/-- The last calibration time as seven bytes (R154). -/
def Totals.timeBytes (t : Option Stamp) : List Byte :=
  match t with
  | none => List.replicate 7 0
  | some s => [0x01#8] ++ bytesBE 2 s.day ++ bytesBE 3 s.seconds ++ [if s.valid then 0x01#8 else 0x00#8]

/-- The items of Table 7-5 in the order of the table, each most significant byte first (R154). -/
def Totals.bytes (t : Totals) : List Byte :=
  Meter.all.flatMap (fun m => bytesBE 8 (t.meterVolume.get m))
    ++ Meter.all.flatMap (fun m => bytesBE 8 (t.unassigned.get m))
    ++ Grade.all.flatMap (fun g => bytesBE 8 (t.gradeVolume.get g))
    ++ Grade.all.flatMap (fun g => bytesBE 8 (t.gradeMoney.get g))
    ++ Fp.all.flatMap (fun f => bytesBE 4 (t.saleCount.get f))
    ++ bytesBE 2 t.calibrations
    ++ Totals.timeBytes t.lastCalibration

/-- The retention check word over the block (R154). -/
def Totals.check (t : Totals) : BitVec 16 := crc16 t.bytes

end Sys2Proof.Machine
end

