-- ==== Sys2Proof/Machine/Settings.lean ====
section
/-! DEFINITION. The settings by item and index (Table 9-2), the stored record as bytes, and its check word (R186). -/

namespace Sys2Proof.Machine

/-! ### The settings by item and index (Table 9-2) -/

/-- A two-valued setting as carried: 0 off, 1 on. -/
def boolItem (b : Bool) : Int := if b then 1 else 0

/-- The audit meter set as carried: 1, 2, 4, 8 for M1 to M4. -/
def meterSetItem (x : PerMeter Bool) : Int := boolItem x.m1 + 2 * boolItem x.m2 + 4 * boolItem x.m3 + 8 * boolItem x.m4

/-- A grade share as carried: −1 for UNUSED. -/
def shareItemOf (x : Option Nat) : Int :=
  match x with
  | some n => n
  | none => -1

/-- A nozzle's grade as carried: 0 for none. -/
def hoseItem (x : Option Grade) : Int :=
  match x with
  | some g => g.number
  | none => 0

/-- The fueling point and nozzle of a hose map index, (FP − 1) × 3 + nozzle. -/
def hoseIndex (n : Nat) : Option (Fp × Nozzle) :=
  match n with
  | 1 => some (.fp1, .n1)
  | 2 => some (.fp1, .n2)
  | 3 => some (.fp1, .n3)
  | 4 => some (.fp2, .n1)
  | 5 => some (.fp2, .n2)
  | 6 => some (.fp2, .n3)
  | _ => none

/-- A setting without an index, which index 0 addresses. -/
def unindexed (index : Nat) (v : Int) : Option Int := if index = 0 then some v else none

/-- The value of an item at an index; `none` where the item or the index is not in Table 9-2 (R191). -/
def Image.item (i : Image) (item index : Nat) : Option Int :=
  match item with
  | 1 => (Meter.ofNumber? index).map (fun m => ((i.cf.get m : Nat) : Int))
  | 2 => (Grade.ofNumber? index).map (fun g => shareItemOf (i.share.get g))
  | 3 => (hoseIndex index).map (fun x => hoseItem ((i.hose.get x.1).get x.2))
  | 4 => unindexed index i.fastDuty
  | 5 => unindexed index i.slowDuty
  | 6 => unindexed index i.valvePeriod
  | 7 => unindexed index i.slowdown
  | 8 => unindexed index i.an0
  | 9 => unindexed index i.runOut
  | 10 => unindexed index i.noFlow
  | 11 => unindexed index i.defaultExpiry
  | 12 => unindexed index i.window
  | 13 => unindexed index i.gain
  | 14 => unindexed index i.bt1
  | 15 => unindexed index i.bt2
  | 16 => unindexed index i.prime
  | 17 => unindexed index i.runOn
  | 18 => unindexed index i.inrushGap
  | 19 => unindexed index i.feedback
  | 20 => (ModuleId.ofNumber? index).map (fun m => ((i.address.get m : Nat) : Int))
  | 21 => unindexed index i.ht
  | 22 => unindexed index i.heatLimit
  | 23 => unindexed index i.settle
  | 24 => unindexed index i.hold
  | 25 => unindexed index i.closeGrace
  | 26 => unindexed index i.lowThreshold
  | 27 => unindexed index (boolItem i.nightWatch)
  | 28 => unindexed index (boolItem i.auditEnable)
  | 29 => unindexed index i.auditSeed
  | 30 => unindexed index i.sac
  | 31 => unindexed index (meterSetItem i.auditMeters)
  | _ => none

/-! ### The stored record as bytes (R186) -/

/-- The items and indices of Table 9-2 in its order. -/
def settingKeys : List (Nat × Nat) :=
  [(1, 1), (1, 2), (1, 3), (1, 4)] ++ [(2, 1), (2, 2), (2, 3), (2, 4), (2, 5), (2, 6)]
    ++ [(3, 1), (3, 2), (3, 3), (3, 4), (3, 5), (3, 6)] ++ (List.range 16).map (fun n => (n + 4, 0))
    ++ [(20, 1), (20, 2), (20, 3), (20, 4)] ++ (List.range 11).map (fun n => (n + 21, 0))

/-- A signed value in four bytes, as SET_ITEM carries one (Table 10-10). -/
def signedBytes (v : Int) : List Byte := bytesBE 4 (BitVec.ofInt 32 v).toNat

/-- The image: every setting of Table 9-2 in order, as SET_ITEM and SET_METER carry it. -/
def Image.bytes (i : Image) : List Byte := settingKeys.flatMap (fun k => signedBytes ((i.item k.1 k.2).getD 0))

/-- A day entry as SET_SCHEDULE carries it (Table 10-5). -/
def DayEntry.bytes : DayEntry → List Byte
  | .openAllDay => 0x00#8 :: List.replicate 6 0x00#8
  | .closedAllDay => 0x01#8 :: List.replicate 6 0x00#8
  | .window o c => 0x02#8 :: (bytesBE 3 o ++ bytesBE 3 c)

/-- The schedule as SET_SCHEDULE carries it. -/
def Schedule.bytes (x : Schedule) : List Byte := (if x.auto then 0x00#8 else 0x01#8) :: x.days.toList.flatMap DayEntry.bytes

/-- A byte of flags, the first at bit 0. -/
def maskByte (flags : List Bool) : Byte := BitVec.ofNat 8 (flags.foldr (fun b n => 2 * n + b.toNat) 0)

/-- The reader policy as SET_READER_POLICY carries it (Table 10-9). -/
def Policy.bytes (p : Policy) : List Byte :=
  maskByte [p.authReq, p.authCancel, p.saleQuery, p.settle, p.prompt, p.textAck] :: maskByte [p.fps.fp1, p.fps.fp2]
    :: (bytesBE 4 p.ceiling ++ [maskByte [p.autoCycle]])

/-- A grade's entry of a price set as STAGE_PRICES carries it (Table 10-7). -/
def gradeBytes : Option GradePrice → List Byte
  | none => List.replicate 5 0x00#8
  | some q => 0x01#8 :: (bytesBE 2 q.level1 ++ bytesBE 2 q.level2)

/-- The items of the stored record in the order of R186. Their byte layout is the one the messages that set them use:
DESIGN CHOICE, unsafe (assumption 14). -/
def StoredItems.bytes (x : StoredItems) : List Byte :=
  x.image.bytes ++ x.schedule.bytes ++ x.policy.bytes ++ Grade.all.flatMap (fun g => gradeBytes (x.prices.get g))
    ++ bytesBE 2 x.generation

/-- The check word: the CRC-16 over every item before it (R186). -/
def StoredItems.check (x : StoredItems) : BitVec 16 := crc16 x.bytes

/-- The record passes its check: its CRC-16 equals the check word it holds (R187). -/
def StoredRecord.sound (r : StoredRecord) : Bool := decide (r.check = some r.items.check)

end Sys2Proof.Machine
end

