-- ==== Sys2Proof/Machine/ResetValues.lean ====
section
/-! DEFINITION. The values of each block after a reset (R20, R41, R75, R76, R90, R112, R140, R159, R185,
R198, R199, R211), the default settings (Table 9-2), and the retention store as delivered (R159). -/

namespace Sys2Proof.Machine

/-- The empty set of record flags. -/
def RecordFlags.empty : RecordFlags := ⟨false, false, false, false, false, false, false⟩

/-- The empty set of lock causes. -/
def LockCauses.empty : LockCauses := ⟨false, false, false, false⟩

/-- A set with every grade unpriced (R90). -/
def PriceSet.empty : PriceSet := ⟨none, none, none, none, none, none⟩

/-- The default settings (Table 9-2). -/
def Image.defaults : Image where
  cf := .four 1000000
  share := ⟨some 0, some 100, some 50, none, none, none⟩
  hose := .both ⟨some .g1, some .g3, some .g2⟩
  fastDuty := 1000
  slowDuty := 250
  valvePeriod := 20
  slowdown := 300
  an0 := 20
  runOut := 1500
  noFlow := 60
  defaultExpiry := 120
  window := 500
  gain := 4
  bt1 := 20
  bt2 := 50
  prime := 1000
  runOn := 5
  inrushGap := 2000
  feedback := 1000
  address := ⟨0x20, 0x21, 0x22, 0x23⟩
  ht := -15
  heatLimit := 45
  settle := 200
  hold := 15
  closeGrace := 15
  lowThreshold := 4
  nightWatch := true
  auditEnable := false
  auditSeed := 1
  sac := 32
  auditMeters := .four true

/-- The default schedule: MANUAL with every day CLOSED_ALL_DAY (R162). -/
def Schedule.default : Schedule :=
  ⟨false, ⟨.closedAllDay, .closedAllDay, .closedAllDay, .closedAllDay, .closedAllDay, .closedAllDay, .closedAllDay⟩⟩

/-- The default reader policy (R138). -/
def Policy.default : Policy where
  authReq := true
  authCancel := true
  saleQuery := true
  settle := true
  prompt := true
  textAck := true
  fps := .both true
  ceiling := 15000
  autoCycle := true

/-- One meter channel after a reset (Table 1-8). The filtered levels and edge times are taken when the
pulser supply is next switched on; until then low and 0, DESIGN CHOICE, unsafe (assumption 13). -/
def Channels.atReset : Channels where
  faulty := false
  cause := .none
  levelA := false
  levelB := false
  lastEdgeA := 0
  lastEdgeB := 0
  aRun := 0
  bRun := 0
  backlash := 0
  noise := 0
  reverse := 0
  lastForward := 0
  recent := false
  recentTimer := none
  lastBRise := none
  bin0 := 0
  bin1 := 0
  bin2 := 0
  bin3 := 0
  creep := 0
  creepRaised := false
  watchCount := 0

/-- The shift register loaded with a seed; a seed of 0 is held as 1 (R15). -/
def loadSeed (seed : Nat) : BitVec 16 := if BitVec.ofNat 16 seed = 0 then 1 else BitVec.ofNat 16 seed

/-- The meter input unit after a reset (Table 1-8), its audit sampler loaded from an image. -/
def Miu.atReset (i : Image) : Miu where
  clock := 0
  meters := .four Channels.atReset
  binTimer := some (ms 250)
  lfsr := loadSeed i.auditSeed
  countdown := i.sac
  ring := Vector.replicate 16 none
  newest := 15
  count := 0

/-- A fueling point controller after a reset (R41, R75). Every nozzle is hung until its switch has held for 50 ms:
DESIGN CHOICE, unsafe (assumption 66). -/
def Fpc.atReset : Fpc where
  state := .closed
  closedCauses := ⟨true, false, false, false, true⟩
  lockCauses := .empty
  noted := .empty
  lockAfterSale := false
  waiting := .none
  nozzleUp := ⟨false, false, false⟩
  saleNozzle := none
  auth := none
  expiryTimer := none
  stopCause := none
  noFlowTimer := none
  runOutTimer := none
  appliedGen := 1
  lastEnd := none
  sale := none
  valveL := none
  valveH := none
  hold := .none

/-- A pump after a reset (R76). -/
def PumpRec.atReset : PumpRec := ⟨.off, 0, .none, none, none, none⟩

/-- The pump start gate after a reset (R76). -/
def Psg.atReset : Psg := ⟨⟨.atReset, .atReset⟩, [], 0⟩

/-- The price unit after a reset, before W0 loads the stored set (R90). -/
def Pru.atReset : Pru := ⟨.empty, 1, none, .both false, .both none⟩

/-- A field after a reset: dirty since the moment of the reset, when the pulse clock restarts from 0 (R112). -/
def Field.atReset (w : Wanted) : Field := ⟨w, true, none, some 0, false⟩

/-- A main display's fields: the no-sale values MONEY 0, VOLUME 0, PRICE blank (R106, R112). -/
def Field.mainAtReset : PerField Field :=
  ⟨.atReset (.number 0), .atReset (.number 0), .atReset .blank⟩

/-- A panel's fields before W0 gives their wanted values (R112). -/
def Field.panelAtReset : PerField Field := ⟨.atReset .blank, .atReset .blank, .atReset .blank⟩

/-- The display bus controller after a reset (R112), with the addresses of an image. -/
def Dbc.atReset (i : Image) : Dbc where
  modules :=
    ⟨⟨i.address.mod1, .unknown, .none, Field.mainAtReset⟩, ⟨i.address.mod2, .unknown, .none, Field.mainAtReset⟩,
     ⟨i.address.mod3, .unknown, .none, Field.panelAtReset⟩, ⟨i.address.mod4, .unknown, .none, Field.panelAtReset⟩⟩
  bus := .idle none
  rotation := .mod4
  blanked := false
  heldTests := .four false

/-- The reader isolation unit after a reset (Table 6-6). The text number and the answers seen of the empty transmit slot,
0, and no exchange in flight are a DESIGN CHOICE, unsafe (assumption 67). -/
def Riu.atReset : Riu where
  link := .off
  sendErrors := 0
  recvErrors := 0
  goodRun := 0
  exchangeTimer := none
  slowPace := false
  exchange := none
  waitingTimer := none
  holdoff := none
  queue := []
  lostPushes := 0
  rejected := 0
  textStage := .none
  textNumber := 0
  answersSeen := 0
  completion := .none
  textCounter := 0
  passThrough := []
  overrun := false
  policy := .default

/-- The totalizer block as delivered (R159). -/
def Totals.delivered : Totals :=
  ⟨.four 0, .four 0, ⟨0, 0, 0, 0, 0, 0⟩, ⟨0, 0, 0, 0, 0, 0⟩, .both 0, 0, none⟩

/-- The sale journal and totalizer store as the part is delivered (R159). -/
def Sj.delivered : Sj where
  slots := Vector.replicate 32 none
  nextSeq := 1
  totals := .delivered
  checkWord := Totals.delivered.check
  anticipation := .both 20
  holdCandidates := .both none
  totalsCorrupt := false
  lowArmed := true
  holdEntries := .both none

/-- The items of the store that are not retained, after a reset (Table 7-7). -/
def Sj.afterReset (j : Sj) : Sj :=
  { j with totalsCorrupt := false, lowArmed := true, holdEntries := .both none }

/-- Time of day after both its supplies were lost: day 0, second 0, invalid (R160). -/
def Stamp.lost : Stamp := ⟨0, 0, false⟩

/-- The sequencer after a reset (Table 8-7): the time of day runs on, the monitor state is taken from PWARN. -/
def Sps.atReset (time : Stamp) (step : Timer) (pwarn : Bool) (cause : ResetCause) : Sps where
  seq := .recovering
  stage := .w0
  stageTimer := none
  awaiting := .four false
  frozenFrom := .none
  resume := .none
  wantedOpen := false
  time := time
  stepTimer := step
  schedule := .default
  closeGrace := none
  heater := false
  heatTimer := none
  cold := false
  warmUp := .none
  warmTimer := none
  ambient := 0
  pulserSupply := false
  displaySupply := false
  domain := .off
  cycleTimer := none
  warning := pwarn
  warnedInRecovery := false
  holdTimers := .both none
  opened := false
  lastReset := cause
  interruptedCount := 0
  freedCount := 0

/-- A stored record that has never been written: it fails its check (R187). That it holds the defaults, the empty price
set and generation 1 is a DESIGN CHOICE, unsafe (assumption 68). -/
def StoredRecord.neverWritten : StoredRecord :=
  ⟨⟨.defaults, .default, .default, .empty, 1⟩, none⟩

/-- A write cut short by the reset leaves the record failing its check (R186, R198). That it keeps the items it held
before the write is a DESIGN CHOICE, unsafe (assumption 68). -/
def Sus.recordAfterReset (s : Sus) : StoredRecord :=
  match s.writing with
  | none => s.stored
  | some _ => { s.stored with check := none }

/-- The setup store after a reset, before W0 loads the image (R198). -/
def Sus.atReset (stored : StoredRecord) : Sus := ⟨.defaults, none, false, stored, none⟩

/-- One notice kind after a reset (R211). -/
def Notice.atReset : Notice := ⟨false, 0, .both false, true⟩

/-- The notice unit after a reset (R211). -/
def Nu.atReset : Nu := ⟨Vector.replicate 24 .atReset⟩

/-- The rate the straps select (R199). -/
def rateOfStraps (straps : BitVec 2) : Nat :=
  match straps.toNat with
  | 1 => 57600
  | 2 => 115200
  | _ => 19200

/-- The control link port after a reset (R199). -/
def Clp.atReset (rate : Nat) : Clp := ⟨rate, .hunting, [], none, none, .nothing, 0⟩

/-- Pins at the first power-up: every line low, every nozzle hung, no warning, METSW open. DESIGN CHOICE,
unsafe (assumption 13). The switches are being debounced (R75). -/
def Pins.atPowerUp : Pins where
  lineA := .four false
  lineB := .four false
  switchUp := .both ⟨false, false, false⟩
  debounce := .both ⟨some (ms 50), some (ms 50), some (ms 50)⟩
  feedback := ⟨false, false⟩
  pwarn := false
  metsw := false

/-- The switches are taken afresh after a reset, once each has held for 50 ms (R75). -/
def Pins.afterReset (p : Pins) : Pins :=
  { p with debounce := .both ⟨some (ms 50), some (ms 50), some (ms 50)⟩ }

end Sys2Proof.Machine
end

