-- ==== Sys2Proof/Machine/State.lean ====
section
/-! DEFINITION. The state of the part: every block's state, the pins, a reset in force, and the queue of
commands; the reasons a step can stop; the state after reset. -/

namespace Sys2Proof.Machine

/-- The whole state. Plain data. -/
structure State where
  pending   : List Instr
  resetHeld : Option ResetCause
  pins      : Pins
  clp       : Clp
  nu        : Nu
  miu       : Miu
  fpc       : PerFp Fpc
  psg       : Psg
  pru       : Pru
  dbc       : Dbc
  riu       : Riu
  sj        : Sj
  sps       : Sps
  sus       : Sus
  deriving DecidableEq, Repr

/-- Reasons a step could fault. The manual stops the part nowhere, so there is none. -/
inductive Fault where
  deriving DecidableEq, Repr

/-- Reasons a command could be refused. -/
inductive Refusal where
  /-- Raised by an arm of `exec` that has no meaning yet (none is left). Safe: no statement holds of it. -/
  | notModelled (mnemonic : String)
  deriving DecidableEq, Repr

/-- The part right after its first power-on reset has ended: every block as its chapter's reset rule
says, the retention store and the setup store as delivered (R159, R187), the time of day lost (R160),
the sequencer RECOVERING at W0 (R185). Values the manual does not give: assumption 13. -/
def State.reset : State where
  pending := []
  resetHeld := none
  pins := Pins.atPowerUp
  clp := Clp.atReset (rateOfStraps 0)
  nu := Nu.atReset
  miu := Miu.atReset Image.defaults
  fpc := PerFp.both Fpc.atReset
  psg := Psg.atReset
  pru := Pru.atReset
  dbc := Dbc.atReset Image.defaults
  riu := Riu.atReset
  sj := Sj.delivered
  sps := Sps.atReset Stamp.lost (some (sec 1)) false .powerOn
  sus := Sus.atReset StoredRecord.neverWritten

end Sys2Proof.Machine
end

