-- ==== Sys2Proof/Machine/Ops.lean ====
section
/-! DEFINITION. The named operations every family is written over: replacing one block, one fueling point,
meter, pump or module; raising notices (R206); the passing of time. -/

namespace Sys2Proof.Machine

/-! ### One block at a time -/

def State.withPending (s : State) (x : List Instr) : State := { s with pending := x }
def State.withResetHeld (s : State) (x : Option ResetCause) : State := { s with resetHeld := x }
def State.withPins (s : State) (x : Pins) : State := { s with pins := x }
def State.withClp (s : State) (x : Clp) : State := { s with clp := x }
def State.withNu (s : State) (x : Nu) : State := { s with nu := x }
def State.withMiu (s : State) (x : Miu) : State := { s with miu := x }
def State.withFpc (s : State) (x : PerFp Fpc) : State := { s with fpc := x }
def State.withPsg (s : State) (x : Psg) : State := { s with psg := x }
def State.withPru (s : State) (x : Pru) : State := { s with pru := x }
def State.withDbc (s : State) (x : Dbc) : State := { s with dbc := x }
def State.withRiu (s : State) (x : Riu) : State := { s with riu := x }
def State.withSj (s : State) (x : Sj) : State := { s with sj := x }
def State.withSps (s : State) (x : Sps) : State := { s with sps := x }
def State.withSus (s : State) (x : Sus) : State := { s with sus := x }

/-- The pin METSW takes a level. -/
def State.withMetsw (s : State) (switchClosed : Bool) : State := s.withPins { s.pins with metsw := switchClosed }

/-- The context of a fueling point. -/
def State.fp (s : State) (f : Fp) : Fpc := s.fpc.get f

/-- Replace the context of a fueling point. -/
def State.setFp (s : State) (f : Fp) (c : Fpc) : State := s.withFpc (s.fpc.set f c)

/-- The channel of a meter. -/
def State.meter (s : State) (m : Meter) : Channels := s.miu.meters.get m

/-- Replace the channel of a meter. -/
def State.setMeter (s : State) (m : Meter) (c : Channels) : State :=
  s.withMiu { s.miu with meters := s.miu.meters.set m c }

/-- The record of a pump. -/
def State.pump (s : State) (p : Pump) : PumpRec := s.psg.pumps.get p

/-- Replace the record of a pump. -/
def State.setPump (s : State) (p : Pump) (r : PumpRec) : State :=
  s.withPsg { s.psg with pumps := s.psg.pumps.set p r }

/-- The record of a display module. -/
def State.module (s : State) (m : ModuleId) : Module := s.dbc.modules.get m

/-- Replace the record of a display module. -/
def State.setModule (s : State) (m : ModuleId) (r : Module) : State :=
  s.withDbc { s.dbc with modules := s.dbc.modules.set m r }

/-! ### Notices -/

/-- The place of a kind in the priority order, from 0 (Table 10-4). -/
def NoticeKind.index : NoticeKind → Fin 24
  | .powerFreeze => 0
  | .powerUp => 1
  | .totalsCorrupt => 2
  | .settingsLost => 3
  | .metrology => 4
  | .fpLocked => 5
  | .pumpFail => 6
  | .meterFault => 7
  | .displayFault => 8
  | .readerFenced => 9
  | .readerWarn => 10
  | .readerRecovered => 11
  | .journalLow => 12
  | .saleDone => 13
  | .authEnded => 14
  | .priceApplied => 15
  | .passthroughReady => 16
  | .passthroughOverrun => 17
  | .siteState => 18
  | .heatTimeout => 19
  | .nightFlow => 20
  | .meterCreep => 21
  | .auditRegular => 22
  | .timeInvalid => 23

/-- All kinds in priority order (Table 10-4). -/
def NoticeKind.all : List NoticeKind :=
  [.powerFreeze, .powerUp, .totalsCorrupt, .settingsLost, .metrology, .fpLocked, .pumpFail, .meterFault,
   .displayFault, .readerFenced, .readerWarn, .readerRecovered, .journalLow, .saleDone, .authEnded,
   .priceApplied, .passthroughReady, .passthroughOverrun, .siteState, .heatTimeout, .nightFlow, .meterCreep,
   .auditRegular, .timeInvalid]

/-- The record of a kind. -/
def Nu.get (n : Nu) (k : NoticeKind) : Notice := n.kinds.get k.index

/-- Replace the record of a kind. -/
def Nu.put (n : Nu) (k : NoticeKind) (x : Notice) : Nu := ⟨n.kinds.set k.index x⟩

/-- Raising a kind of site scope: pending, one more occurrence, up to 255 (R206). -/
def Notice.raised (n : Notice) : Notice := { n with pending := true, count := satAdd 255 n.count 1 }

/-- Raising a kind for a fueling point, which joins the pending set (R206). -/
def Notice.raisedFor (n : Notice) (f : Fp) : Notice := { n.raised with fps := n.fps.set f true }

/-- A kind cleared (R209). -/
def Notice.cleared (n : Notice) : Notice := { n with pending := false, count := 0, fps := .both false }

/-- Raise a kind of site scope. -/
def State.raise (s : State) (k : NoticeKind) : State := s.withNu (s.nu.put k (s.nu.get k).raised)

/-- Raise a kind of fueling-point scope for one fueling point. -/
def State.raiseFor (s : State) (k : NoticeKind) (f : Fp) : State :=
  s.withNu (s.nu.put k ((s.nu.get k).raisedFor f))

/-- ATTN is asserted while some kind is pending with its enable set (R207). -/
def Nu.attn (n : Nu) : Bool := n.kinds.toList.any (fun k => k.pending && k.enable)

/-! ### Time -/

/-- A timer after `d` µs: it counts down and stays at 0 until its expiry is taken. -/
def runDown (d : Nat) (t : Timer) : Timer := t.map (fun left => left - d)

/-- A meter channel after `d` µs. -/
def Channels.advance (d : Nat) (c : Channels) : Channels := { c with recentTimer := runDown d c.recentTimer }

/-- A valve period after `d` µs. -/
def ValvePeriod.advance (d : Nat) (v : ValvePeriod) : ValvePeriod := { v with left := runDown d v.left }

/-- A fueling point context after `d` µs. -/
def Fpc.advance (d : Nat) (c : Fpc) : Fpc :=
  { c with
    expiryTimer := runDown d c.expiryTimer
    noFlowTimer := runDown d c.noFlowTimer
    runOutTimer := runDown d c.runOutTimer
    valveL := c.valveL.map (ValvePeriod.advance d)
    valveH := c.valveH.map (ValvePeriod.advance d) }

/-- A pump record after `d` µs. -/
def PumpRec.advance (d : Nat) (p : PumpRec) : PumpRec :=
  { p with
    feedbackTimer := runDown d p.feedbackTimer
    primeTimer := runDown d p.primeTimer
    runOnTimer := runDown d p.runOnTimer }

/-- The sequencer after `d` µs: its timers; the time of day steps by its own command. -/
def Sps.advance (d : Nat) (p : Sps) : Sps :=
  { p with
    stageTimer := runDown d p.stageTimer
    stepTimer := runDown d p.stepTimer
    closeGrace := runDown d p.closeGrace
    heatTimer := runDown d p.heatTimer
    warmTimer := runDown d p.warmTimer
    cycleTimer := runDown d p.cycleTimer
    holdTimers := p.holdTimers.map (runDown d) }

/-- The pulse clock advances, modulo 2^32, and every running timer counts down (1.1; assumption 2). -/
def State.advance (d : Nat) (s : State) : State :=
  { s with
    pins := { s.pins with debounce := s.pins.debounce.map (PerNozzle.map (runDown d)) }
    miu := { s.miu with
      clock := s.miu.clock + BitVec.ofNat 32 d
      binTimer := runDown d s.miu.binTimer
      meters := s.miu.meters.map (Channels.advance d) }
    fpc := s.fpc.map (Fpc.advance d)
    psg := { s.psg with pumps := s.psg.pumps.map (PumpRec.advance d), sinceStart := s.psg.sinceStart + d }
    riu := { s.riu with
      exchangeTimer := runDown d s.riu.exchangeTimer
      waitingTimer := runDown d s.riu.waitingTimer
      holdoff := runDown d s.riu.holdoff }
    sps := s.sps.advance d }

/-! ### Questions the rules ask -/

/-- A fueling point is in a sale in STARTING, FUELING and STOPPING (chapter 1, chapter 3). -/
def FpState.inSale : FpState → Bool
  | .starting => true
  | .fueling => true
  | .stopping => true
  | _ => false

/-- Whether a fueling point is in a sale. -/
def State.inSale (s : State) (f : Fp) : Bool := (s.fp f).state.inSale

/-- Whether the sequencer is OPEN or CLOSING, the states with pump grants and open valves (R39, R70). -/
def SeqState.trading : SeqState → Bool
  | .opened => true
  | .closing => true
  | _ => false

/-- A grade is defined when its share is not UNUSED (R33, R77). -/
def Image.defined (i : Image) (g : Grade) : Bool := (i.share.get g).isSome

/-- The high share in per mille, t = 10 × g (R33); 0 for an unused grade, which no sale has. -/
def Image.perMille (i : Image) (g : Grade) : Nat := 10 * ((i.share.get g).getD 0)

/-- Whether a sale of per mille `t` needs a pump: PUMP-L below 100 %, PUMP-H above 0 % (R33, R68). -/
def needsPump (t : Nat) : Pump → Bool
  | .pumpL => t < 1000
  | .pumpH => 0 < t

/-- Run `f` unless a reset is in force: a part held in reset takes nothing (R180; assumption 11). -/
def State.live (s : State) (f : State → State) : State := if s.resetHeld.isSome then s else f s

/-- A command's next state: its effect, unless a reset is in force. -/
def State.take (s : State) (f : State → State) : Host.Outcome State Fault Refusal := .next (s.live f)

end Sys2Proof.Machine
end

