-- ==== Sys2Proof/Machine/Operands.lean ====
section
/-! DEFINITION. The operand forms of messages and frames: the codes of their fields (R200, Tables 10-5 to
10-18), their checks and their clamps. -/

namespace Sys2Proof.Machine

/-- Whether bit `n` of a mask is set. -/
def maskBit {w : Nat} (m : BitVec w) (n : Nat) : Bool := m.getLsbD n

/-- The result code byte (Table 10-2). -/
def Result.code : Result → Byte
  | .ok => 0x00
  | .okClamped => 0x01
  | .okReplaced => 0x02
  | .already => 0x03
  | .busy => 0x10
  | .wrongState => 0x11
  | .notPermitted => 0x12
  | .badField => 0x13
  | .noEntry => 0x14
  | .journalFull => 0x15
  | .gradeNotAllowed => 0x16
  | .unknownKind => 0x17
  | .badLength => 0x18
  | .frameError => 0x19

/-- The fueling point a byte names, if 1 or 2. -/
def fpOfByte (b : Byte) : Option Fp := Fp.ofNumber? b.toNat

/-- The level a byte names, if 1 or 2. -/
def levelOfByte (b : Byte) : Option Level :=
  match b.toNat with
  | 1 => some .level1
  | 2 => some .level2
  | _ => none

def Level.number : Level → Nat
  | .level1 => 1
  | .level2 => 2

/-- The allowed grade set: bit n − 1 for Gn, bits 6 and 7 ignored (Table 10-13). -/
def gradesOfByte (b : Byte) : BitVec 6 := b.extractLsb' 0 6

/-- Whether a grade is in an allowed grade set. -/
def gradeIn (set : BitVec 6) (g : Grade) : Bool := maskBit set (g.number - 1)

/-- An expiry and whether it was clamped: 0 is the default, which counts as no clamp (R45, R127). -/
def clampExpiry (dflt : Nat) (e : BitVec 16) : Nat × Bool :=
  if e.toNat = 0 then (dflt, false)
  else if e.toNat < 10 then (10, true)
  else if 600 < e.toNat then (600, true)
  else (e.toNat, false)

/-- The limit of AUTHORIZE and whether it was clamped; `none` where R45 refuses it: a kind other than
NONE 0, VOLUME 1, MONEY 2, or a value of 0. -/
def controlLimit (kind : Byte) (value : BitVec 32) : Option (Limit × Bool) :=
  match kind.toNat with
  | 0 => some (.none, false)
  | 1 =>
    if value.toNat = 0 then none
    else if 99999 < value.toNat then some (.volume 99999, true)
    else some (.volume value.toNat, false)
  | 2 =>
    if value.toNat = 0 then none
    else if 999899 < value.toNat then some (.money 999899, true)
    else some (.money value.toNat, false)
  | _ => none

/-- The money limit of AUTH_REQ under a ceiling, and whether it was clamped; `none` where R127 refuses it:
VOLUME or an unknown kind, or MONEY 0. NONE becomes the ceiling. -/
def readerLimit (ceiling : Nat) (kind : Byte) (value : BitVec 32) : Option (Nat × Bool) :=
  match kind.toNat with
  | 0 => some (ceiling, true)
  | 2 =>
    if value.toNat = 0 then none
    else if ceiling < value.toNat then some (ceiling, true)
    else some (value.toNat, false)
  | _ => none

/-- The code of a limit kind (Table 10-13). -/
def Limit.kindCode : Limit → Nat
  | .none => 0
  | .volume _ => 1
  | .money _ => 2

/-- The value of a limit; 0 for NONE, whose value is absent. -/
def Limit.value : Limit → Nat
  | .none => 0
  | .volume v => v
  | .money v => v

def Side.code : Side → Nat
  | .control => 0
  | .reader => 1

def SettledBy.code : SettledBy → Nat
  | .control => 0
  | .reader => 1
  | .takeOver => 2

/-- The code of a slot's entry state (Table 10-14); a FREE slot has no entry. -/
def EntryState.code : EntryState → Nat
  | .reserved => 1
  | .active => 2
  | .unsettled => 3
  | .settled => 4

/-- End reasons 1..13 in the order of Table 3-6 (Table 10-14). -/
def EndReason.code : EndReason → Nat
  | .nozzleHung => 1
  | .presetReached => 2
  | .ceiling => 3
  | .noFlow => 4
  | .controlStop => 5
  | .readerStop => 6
  | .pumpFail => 7
  | .meterFault => 8
  | .displayFault => 9
  | .blendFault => 10
  | .closing => 11
  | .powerLoss => 12
  | .interrupted => 13

/-- Drop causes from 0 in the order of Table 3-4 (Table 10-16, R200). -/
def DropCause.code : DropCause → Nat
  | .expired => 0
  | .cancelled => 1
  | .controlCancel => 2
  | .fenced => 3
  | .power => 4
  | .closing => 5
  | .fault => 6

/-- A grade entry of STAGE_PRICES, checked against whether its grade is defined; `none` is faulty (R78). -/
def checkPrice (isDefined : Bool) (e : RawPrice) : Option (Option GradePrice) :=
  match e.priced.toNat with
  | 0 => if isDefined then none else some none
  | 1 =>
    if isDefined
      && decide (100 ≤ e.level1.toNat ∧ e.level1.toNat ≤ 9999 ∧ 100 ≤ e.level2.toNat ∧ e.level2.toNat ≤ 9999) then
      some (some ⟨e.level1.toNat, e.level2.toNat⟩)
    else none
  | _ => none

/-- The lowest grade of G1..G6 whose entry is faulty (R78). -/
def firstFaultyGrade (isDefined : Grade → Bool) (es : PerGrade RawPrice) : Option Grade :=
  Grade.all.find? (fun g => (checkPrice (isDefined g) (es.get g)).isNone)

/-- The price set of accepted entries. -/
def priceSetOf (isDefined : Grade → Bool) (es : PerGrade RawPrice) : PriceSet :=
  PerGrade.of (fun g => (checkPrice (isDefined g) (es.get g)).join)

/-- A day entry of SET_SCHEDULE: OPEN_ALL_DAY 0, CLOSED_ALL_DAY 1, WINDOW 2; `none` is faulty (R162). -/
def checkDay (d : RawDay) : Option DayEntry :=
  match d.kind.toNat with
  | 0 => some .openAllDay
  | 1 => some .closedAllDay
  | 2 =>
    if d.opens.toNat < 86400 ∧ d.closes.toNat < 86400 ∧ d.opens.toNat < d.closes.toNat then
      some (.window d.opens.toNat d.closes.toNat)
    else none
  | _ => none

/-- The schedule a SET_SCHEDULE carries, or the first faulty weekday, 0 for the mode (R162). The spec numbers no
weekday there: the model's numbers are 1 for Monday to 7 for Sunday, DESIGN CHOICE, unsafe (assumption 64). Mode AUTO
is 0, MANUAL 1 (R200; assumption 30). -/
def checkSchedule (mode : Byte) (days : PerDay RawDay) : Except Nat Schedule :=
  if 1 < mode.toNat then .error 0
  else
    match days.toList.findIdx? (fun d => (checkDay d).isNone) with
    | some i => .error (i + 1)
    | none => .ok ⟨decide (mode.toNat = 0), days.map (fun d => (checkDay d).getD .closedAllDay)⟩

/-- The policy a SET_READER_POLICY carries and whether the ceiling was clamped; `none` where R138 refuses
it: a kind outside the six, a fueling point outside the two, a switch byte other than 0 and 1. -/
def checkPolicy (kinds fps : Byte) (ceiling : BitVec 32) (autoCycle : Byte) : Option (Policy × Bool) :=
  if 64 ≤ kinds.toNat ∨ 4 ≤ fps.toNat ∨ 1 < autoCycle.toNat then none
  else
    some
      ({ authReq := maskBit kinds 0
         authCancel := maskBit kinds 1
         saleQuery := maskBit kinds 2
         settle := maskBit kinds 3
         prompt := maskBit kinds 4
         textAck := maskBit kinds 5
         fps := ⟨maskBit fps 0, maskBit fps 1⟩
         ceiling := clampNat 100 999899 ceiling.toNat
         autoCycle := decide (autoCycle.toNat = 1) },
       decide (clampNat 100 999899 ceiling.toNat ≠ ceiling.toNat))

/-- The kinds a CLEAR_NOTICES or SET_NOTICE_ENABLES mask names: kind n at bit n − 1 (Table 10-4). -/
def noticeIn (mask : BitVec 24) (k : NoticeKind) : Bool := maskBit mask k.index.val

end Sys2Proof.Machine
end

