-- ==== Sys2Proof/Machine/Codes.lean ====
section
/-! DEFINITION. The codes of the enumerated items of replies (R200): each value counted from 0 in the order in which
the owning rule or its table lists the values. -/

namespace Sys2Proof.Machine

/-- The place of a value in the list of values of its rule, from 0 (R200). -/
def codeIn {α : Type} [DecidableEq α] (values : List α) (x : α) : Nat := values.findIdx (fun y => decide (y = x))

/-- Two listed values, the second one coded 1. -/
def codeOfSecond (second : Bool) : Nat := if second then 1 else 0

/-! ### The site (Tables 8-1, 9-1; R162) -/

def SeqState.code : SeqState → Nat := codeIn [.recovering, .night, .waking, .opened, .closing, .shutting, .frozen]

def Stage.code : Stage → Nat := codeIn [.w0, .w1, .w2, .w3, .w4, .w5, .s1, .s2, .s3, .s4, .s5, .none]

def FrozenFrom.code : FrozenFrom → Nat := codeIn [.opened, .closing, .waking, .shutting, .none]

def ResumeStage.code : ResumeStage → Nat := codeIn [.w1, .w2, .none]

def WarmUp.code : WarmUp → Nat := codeIn [.none, .powering, .testing]

def Domain.code : Domain → Nat := codeIn [.on, .off, .cycling]

def ResetCause.code : ResetCause → Nat := codeIn [.powerOn, .pin, .restart]

/-- OPEN, CLOSED. -/
def wantedCode (wantedOpen : Bool) : Nat := codeOfSecond (!wantedOpen)

/-- AUTO, MANUAL. -/
def modeCode (auto : Bool) : Nat := codeOfSecond (!auto)

/-- ON, OFF. -/
def switchCode (on : Bool) : Nat := codeOfSecond (!on)

/-- OPEN_ALL_DAY, CLOSED_ALL_DAY, WINDOW. -/
def DayEntry.code : DayEntry → Nat
  | .openAllDay => 0
  | .closedAllDay => 1
  | .window _ _ => 2

/-! ### Fueling points and meters (Tables 1-2, 2-1, 3-1, 3-5, 3-6) -/

def FpState.code : FpState → Nat :=
  codeIn [.closed, .idle, .calling, .armed, .starting, .fueling, .stopping, .ended, .locked]

/-- The members of a set of closed causes. -/
def ClosedCauses.codes (c : ClosedCauses) : List Nat :=
  [(c.site, 0), (c.setup, 1), (c.notSetUp, 2), (c.cold, 3), (c.display, 4)].filterMap
    (fun x => if x.1 then some x.2 else none)

/-- The members of a set of lock causes. -/
def LockCauses.codes (c : LockCauses) : List Nat :=
  [(c.meter, 0), (c.display, 1), (c.blend, 2), (c.totals, 3)].filterMap (fun x => if x.1 then some x.2 else none)

def Waiting.code : Waiting → Nat := codeIn [.none, .nozzleConflict, .wrongNozzle, .priceWait]

def StopCause.code : StopCause → Nat :=
  codeIn [.nozzleHung, .preset, .ceiling, .noFlow, .controlStop, .readerStop, .pumpFail, .closing, .meterFault,
    .displayFault, .blendFault]

def MeterCause.code : MeterCause → Nat := codeIn [.none, .channelA, .channelB, .reverse]

/-- The members of a set of record flags (Table 3-7). -/
def RecordFlags.codes (x : RecordFlags) : List Nat :=
  [(x.saturated, 0), (x.presetOverrun, 1), (x.presetShort, 2), (x.blendDev, 3), (x.extraNozzle, 4), (x.toppedUp, 5),
   (x.holdShown, 6)].filterMap (fun y => if y.1 then some y.2 else none)

/-- none, FAST, SLOW, TOPUP. -/
def phaseCode : Option Phase → Nat := codeIn [none, some .fast, some .slow, some .topUp]

def CloseKind.code : CloseKind → Nat := codeIn [.preset, .ceiling]

/-- The positions of nozzles N1..N3: up, hung. -/
def nozzleCodes (nozzleUp : PerNozzle Bool) : List Nat := Nozzle.all.map (fun n => codeOfSecond (!nozzleUp.get n))

/-! ### Prices (Table 4-1; R78) -/

/-- NOW, AT. -/
def Activation.code : Activation → Nat := codeIn [.now, .timed]

/-- The marks of the grade entries G1..G6: 1 priced, 0 unpriced (R78). -/
def PriceSet.codes (set : PriceSet) : List Nat := Grade.all.map (fun g => codeOfSecond (set.get g).isSome)

/-! ### Pumps, displays, the reader, samples (Tables 1-6, 3-9, 5-4, 5-5, 6-1) -/

/-- PUMP-L, PUMP-H (Table 10-3). -/
def Pump.code : Pump → Nat := codeIn [.pumpL, .pumpH]

def PumpState.code : PumpState → Nat := codeIn [.off, .queued, .starting, .priming, .running, .runOn, .failed]

def PumpCause.code : PumpCause → Nat := codeIn [.none, .noFeedback, .feedbackLost, .stuck]

def BusState.code : BusState → Nat := codeIn [.idle, .busy, .recovering, .stuck]

def ModuleState.code : ModuleState → Nat := codeIn [.unknown, .ok, .failed]

def TestStage.code : TestStage → Nat := codeIn [.none, .pattern, .values]

def LinkState.code : LinkState → Nat := codeIn [.off, .waiting, .absent, .active, .warning, .fenced, .recovering]

def TextStage.code : TextStage → Nat := codeIn [.none, .queued, .sent]

def Completion.code : Completion → Nat := codeIn [.none, .pending, .sentOk, .failed, .aborted]

def SampleCause.code : SampleCause → Nat := codeIn [.first, .noSale, .runOut, .fast, .slow]

/-! ### The enumerated items of each reply -/

/-- Part SITE, in the order of R184, then R197 (Tables 8-1, 9-1). -/
def SiteStatus.codes (x : SiteStatus) : List Nat :=
  [x.seq.code, x.stage.code, x.frozenFrom.code, x.resume.code, wantedCode x.wantedOpen, codeOfSecond x.time.valid,
   modeCode x.auto,   codeOfSecond x.warning, switchCode x.heater, codeOfSecond x.cold, x.warmUp.code, switchCode x.pulserSupply,
   switchCode x.displaySupply, x.domain.code, x.lastReset.code, codeOfSecond x.setupMode, codeOfSecond x.settingsLost]

/-- Part DISPLAY (R111): the bus, the state and the stage of each module, then the dirty flag of each of the twelve
fields (Tables 5-4, 5-5). -/
def DisplayStatus.codes (x : DisplayStatus) : List Nat :=
  [x.bus.code]
    ++ ModuleId.all.flatMap (fun m => [(x.modules.get m).2.1.code, (x.modules.get m).2.2.1.code])
    ++ ModuleId.all.flatMap (fun m => FieldPos.all.map (fun p => codeOfSecond ((x.modules.get m).2.2.2.get p).1))

/-- One pump in part PUMPS (Table 10-3). -/
def PumpStatus.codes (x : PumpStatus) : List Nat := [x.state.code, x.cause.code]

/-- The meter items of FP_STATUS (Table 1-7). -/
def MeterStatus.codes (x : MeterStatus) : List Nat := [codeOfSecond x.faulty, x.cause.code]

/-- The sale items of FP_STATUS (Table 2-6). -/
def SaleStatus.codes (x : SaleStatus) : List Nat :=
  [x.limit.kindCode, x.closeKind.code, phaseCode x.phase, codeOfSecond x.topUpDone] ++ x.flags.codes

/-- FP_STATUS (Table 3-8): its own items, then those of the two meters and of the sale. End reasons have the codes of
Table 10-14. -/
def FpStatus.codes (x : FpStatus) : List Nat :=
  [x.state.code] ++ x.closedCauses.codes ++ x.lockCauses.codes ++ [codeOfSecond x.lockAfterSale, x.waiting.code]
    ++ nozzleCodes x.nozzleUp
    ++ x.auth.toList.flatMap (fun a => [Side.code a.owner, a.limit.kindCode, Level.number a.level])
    ++ x.stopCause.toList.map StopCause.code
    ++ x.lastEnd.toList.map EndReason.code ++ x.low.codes ++ x.high.codes ++ x.sale.toList.flatMap SaleStatus.codes

/-- PRICE_STATUS (R89): the marks of the current set; of the pending set its activation kind and its marks; the valid
flag; what is due. -/
def PriceStatus.codes (x : PriceStatus) : List Nat :=
  PriceSet.codes x.current ++ x.pendingSet.toList.flatMap (fun p => p.activation.code :: PriceSet.codes p.set)
    ++ [codeOfSecond x.timeValid, codeOfSecond x.adoptionDue.fp1, codeOfSecond x.adoptionDue.fp2]

/-- JOURNAL_STATUS (R151): whether the next sequence number is exhausted, and the low armed flag. -/
def JournalStatus.codes (x : JournalStatus) : List Nat := [codeOfSecond x.exhausted, codeOfSecond x.lowArmed]

/-- The members of the permitted kinds, in the order of R138. -/
def Policy.codes (x : Policy) : List Nat :=
  [(x.authReq, 0), (x.authCancel, 1), (x.saleQuery, 2), (x.settle, 3), (x.prompt, 4), (x.textAck, 5)].filterMap
    (fun y => if y.1 then some y.2 else none)

/-- READER_STATUS (R139); the auto power-cycle item is 1 for on, 0 for off (R138). -/
def ReaderStatus.codes (x : ReaderStatus) : List Nat :=
  [x.link.code, x.domain.code, x.completion.code, x.textStage.code, codeOfSecond x.overrun,
   codeOfSecond x.policy.autoCycle] ++ x.policy.codes

/-- The codes of the enumerated items of a reply whose bytes the manual does not lay out, in the order of the owning
rule (R200, 0.6); a reply that it lays out has its codes in its bytes. -/
def Body.codes : Body → List Nat
  | .site x => x.codes
  | .display x => x.codes
  | .pumps x queue _ => x.pumpL.codes ++ x.pumpH.codes ++ queue.map Pump.code
  | .schedule x => modeCode x.auto :: x.days.toList.map DayEntry.code
  | .fpStatus x => x.codes
  | .lockCause c => c.codes
  | .newState x => [x.code]
  | .prices x => x.codes
  | .journal x => x.codes
  | .totalsOther _ _ last _ corrupt => last.toList.map (fun t => codeOfSecond t.valid) ++ [codeOfSecond corrupt]
  | .reader x => x.codes
  | .samples _ _ items => items.flatMap (fun x => [codeOfSecond x.time.valid, x.cause.code])
  | _ => []

end Sys2Proof.Machine
end

