-- ==== Sys2Proof/Machine/Flags.lean ====
section
/-! DEFINITION. Sets of flags: closed causes (R43), lock causes (R63), record flags (Table 3-7), and the
flags computed at the end of a sale (R23, R31). -/

namespace Sys2Proof.Machine

/-- Whether any closed cause is present. -/
def ClosedCauses.any (c : ClosedCauses) : Bool := c.site || c.setup || c.notSetUp || c.cold || c.display

/-- Add or remove a closed cause. -/
def ClosedCauses.put (c : ClosedCauses) (k : ClosedCause) (present : Bool) : ClosedCauses :=
  match k with
  | .site => { c with site := present }
  | .setup => { c with setup := present }
  | .notSetUp => { c with notSetUp := present }
  | .cold => { c with cold := present }
  | .display => { c with display := present }

/-- Whether any lock cause is present. -/
def LockCauses.any (c : LockCauses) : Bool := c.meter || c.display || c.blend || c.totals

/-- The union of two sets of lock causes. -/
def LockCauses.union (a b : LockCauses) : LockCauses :=
  ⟨a.meter || b.meter, a.display || b.display, a.blend || b.blend, a.totals || b.totals⟩

def LockCauses.ofMeter : LockCauses := ⟨true, false, false, false⟩
def LockCauses.ofDisplay : LockCauses := ⟨false, true, false, false⟩
def LockCauses.ofBlend : LockCauses := ⟨false, false, true, false⟩
def LockCauses.ofTotals : LockCauses := ⟨false, false, false, true⟩

/-- The lock cause an end reason brings (R62): METER, DISPLAY or BLEND for the three faults, none otherwise. -/
def EndReason.lockCauses : EndReason → LockCauses
  | .meterFault => .ofMeter
  | .displayFault => .ofDisplay
  | .blendFault => .ofBlend
  | _ => .empty

/-- The union of two sets of record flags. -/
def RecordFlags.union (a b : RecordFlags) : RecordFlags :=
  ⟨a.saturated || b.saturated, a.presetOverrun || b.presetOverrun, a.presetShort || b.presetShort,
   a.blendDev || b.blendDev, a.extraNozzle || b.extraNozzle, a.toppedUp || b.toppedUp, a.holdShown || b.holdShown⟩

/-- The preset flags and the over/short figure of an ended sale (R31). -/
def Sale.withPresetFlags (r : Sale) : Sale :=
  if r.presetClosed then
    if r.volume < r.target then
      { r with flags := { r.flags with presetShort := true }, overShort := some (r.target - r.volume) }
    else if r.target < r.volume then
      { r with flags := { r.flags with presetOverrun := true }, overShort := some (r.volume - r.target) }
    else r
  else r

/-- The flags byte of a READ_SALE reply (Table 10-14). -/
def RecordFlags.byte (f : RecordFlags) : Byte :=
  BitVec.ofNat 8
    (f.saturated.toNat + 2 * f.presetOverrun.toNat + 4 * f.presetShort.toNat + 8 * f.blendDev.toNat
      + 16 * f.extraNozzle.toNat + 32 * f.toppedUp.toNat + 64 * f.holdShown.toNat)

/-- The end reason after run-out of a stop cause (Table 3-5). -/
def StopCause.endReason : StopCause → EndReason
  | .nozzleHung => .nozzleHung
  | .preset => .presetReached
  | .ceiling => .ceiling
  | .noFlow => .noFlow
  | .controlStop => .controlStop
  | .readerStop => .readerStop
  | .pumpFail => .pumpFail
  | .closing => .closing
  | .meterFault => .meterFault
  | .displayFault => .displayFault
  | .blendFault => .blendFault

/-- The causes a later fault does not replace (R60). -/
def StopCause.isLocking : StopCause → Bool
  | .meterFault => true
  | .displayFault => true
  | .blendFault => true
  | _ => false

end Sys2Proof.Machine
end

