-- ==== Sys2Proof/Machine/Arithmetic.lean ====
section
/-! DEFINITION. Sale arithmetic (chapter 2): volume, money, targets, duties, the blend window, learning.
Functions of the sale registers and the settings alone. -/

namespace Sys2Proof.Machine

/-- T, the total credited volume in nL (Table 2-1). -/
def Sale.total (r : Sale) : Nat := r.accL + r.accH

/-- V in mL: floor(T / 1,000,000), capped at 999,999 (R23). -/
def volumeOf (total : Nat) : Nat := min 999999 (total / 1000000)

/-- M in cents: floor((V × P + 5000) / 10000) (R24). -/
def moneyOf (volume price : Nat) : Nat := (volume * price + 5000) / 10000

/-- ceil(a / b). -/
def ceilDiv (a b : Nat) : Nat := (a + b - 1) / b

/-- The target of a limit at a price (R26, Table 2-2). -/
def targetOf (limit : Limit) (price : Nat) : Nat :=
  match limit with
  | .none => 999999
  | .volume cl => cl * 10
  | .money cents => min 999999 (ceilDiv (10000 * cents - 5000) price)

/-- The close kind of a target (R26). -/
def closeKindOf (target : Nat) : CloseKind := if target = 999999 then .ceiling else .preset

/-- The unit price of a grade and level in a price set (R21, R77). -/
def priceOf (set : PriceSet) (g : Grade) (l : Level) : Nat :=
  match set.get g, l with
  | some p, .level1 => p.level1
  | some p, .level2 => p.level2
  | none, l => Config.unpricedPrice g l

/-- The sale registers as loaded at the entry to STARTING (R21, R26, R27). The manual gives the held phase and the held
duties no value there: none and 0 are a DESIGN CHOICE, unsafe (assumption 51). -/
def Sale.start (i : Image) (set : PriceSet) (an : Nat) (a : Auth) (g : Grade) : Sale :=
  let price := priceOf set g a.level
  let target := targetOf a.limit price
  { grade := g
    level := a.level
    t := i.perMille g
    accL := 0
    accH := 0
    volume := 0
    volumeCl := 0
    money := 0
    price := price
    limit := a.limit
    target := target
    slowPoint := target - i.slowdown
    closePoint := target - an
    closeKind := closeKindOf target
    an := an
    phase := none
    topUpDone := false
    presetClosed := false
    dutyL := 0
    dutyH := 0
    heldPhase := none
    heldL := 0
    heldH := 0
    hung := false
    deltaL := 0
    deltaH := 0
    flags := .empty
    overShort := none }

/-- Steps 1 and 2 of a credited pulse: the accumulator grows, V, V_cl and M are worked out again, and
SATURATED is set when floor(T / 1,000,000) exceeds 999,999 (R22, R23, R24, R25). -/
def Sale.credited (r : Sale) (p : Product) (cf : Nat) : Sale :=
  let r1 : Sale :=
    match p with
    | .low => { r with accL := r.accL + cf }
    | .high => { r with accH := r.accH + cf }
  let v := volumeOf r1.total
  { r1 with
    volume := v
    volumeCl := v / 10
    money := moneyOf v r1.price
    flags := { r1.flags with saturated := r1.flags.saturated || decide (999999 < r1.total / 1000000) } }

/-- Whether the sale's grade is a blend (R33). -/
def Sale.isBlend (r : Sale) : Bool := decide (0 < r.t ∧ r.t < 1000)

/-- The starting duties (R34), low and high. -/
def startDuties (fast t : Nat) : Nat × Nat :=
  if 0 < t ∧ t < 1000 then (max 50 (fast * (1000 - t) / 1000), max 50 (fast * t / 1000))
  else if t = 0 then (fast, 0)
  else (0, fast)

/-- A duty scaled on entry to SLOW or TOPUP (R35). -/
def scaleDuty (blend : Bool) (fast slow h : Nat) : Nat :=
  if h = 0 then 0 else max (if blend then 50 else 1) (h * slow / fast)

/-- Entry to phase SLOW: the duties in force are scaled (R28, R35). -/
def Sale.enterSlow (i : Image) (r : Sale) : Sale :=
  { r with
    phase := some .slow
    dutyL := scaleDuty r.isBlend i.fastDuty i.slowDuty r.dutyL
    dutyH := scaleDuty r.isBlend i.fastDuty i.slowDuty r.dutyH }

/-- Entry to phase TOPUP: the held duties, scaled only if the held phase was FAST (R29, R35). -/
def Sale.enterTopUp (i : Image) (r : Sale) : Sale :=
  let scale := fun h => if r.heldPhase = some .fast then scaleDuty r.isBlend i.fastDuty i.slowDuty h else h
  { r with
    phase := some .topUp
    topUpDone := true
    flags := { r.flags with toppedUp := true }
    dutyL := scale r.heldL
    dutyH := scale r.heldH }

/-- The valves close: the held phase and duties are recorded and both duties become 0 (R28, R35, R57). -/
def Sale.closeValves (r : Sale) : Sale :=
  { r with heldPhase := r.phase, heldL := r.dutyL, heldH := r.dutyH, dutyL := 0, dutyH := 0 }

/-- Entry to FUELING from STARTING: phase FAST with the starting duties (R34). -/
def Sale.enterFast (i : Image) (r : Sale) : Sale :=
  { r with phase := some .fast, dutyL := (startDuties i.fastDuty r.t).1, dutyH := (startDuties i.fastDuty r.t).2 }

/-- The second check of R28: V at or past the close point. -/
def Sale.closeCheck (r : Sale) : Sale × Option StopCause :=
  if r.closePoint ≤ r.volume then
    match r.closeKind with
    | .preset => ({ r with presetClosed := true }, some .preset)
    | .ceiling => (r, some .ceiling)
  else (r, none)

/-- The approach checks: the sale after them, and the stop cause if the valves are to close (R28, R30). -/
def Sale.approach (i : Image) (r : Sale) : Sale × Option StopCause :=
  match r.phase with
  | some .topUp => (r, if r.target ≤ r.volume then some .preset else none)
  | some .slow => r.closeCheck
  | some .fast => (if r.slowPoint ≤ r.volume then r.enterSlow i else r).closeCheck
  | none => (r, none)

/-- The duty Fcur that a correction may not exceed (R36). -/
def Sale.dutyCap (i : Image) (r : Sale) : Nat := if r.phase = some .fast then i.fastDuty else i.slowDuty

/-- The correction step Δ = trunc(e × KB / 16) of a window with share `sw` (R36). -/
def windowStep (t sw gain : Nat) : Int := (((t : Int) - sw) * gain).tdiv 16

/-- The correction of a closed window: a straight grade takes none (R36). -/
def Sale.correct (i : Image) (r : Sale) : Sale :=
  if r.isBlend then
    let sw := r.deltaH * 1000 / (r.deltaH + r.deltaL)
    let step := windowStep r.t sw i.gain
    { r with
      dutyH := (clampInt 50 (r.dutyCap i) ((r.dutyH : Int) + step)).toNat
      dutyL := (clampInt 50 (r.dutyCap i) ((r.dutyL : Int) - step)).toNat
      deltaL := 0
      deltaH := 0 }
  else { r with deltaL := 0, deltaH := 0 }

/-- |s − t| for the cumulative share s = floor(acc_H × 1000 / T) (R37). -/
def Sale.shareError (r : Sale) : Nat := ((r.accH * 1000 / r.total : Nat) - (r.t : Int)).natAbs

/-- The blend check at a window close: the sale with BLEND_DEV, and whether it is a blend fault (R37). -/
def Sale.blendCheck (i : Image) (r : Sale) : Sale × Bool :=
  if 2000000000 ≤ r.total then
    ({ r with flags := { r.flags with blendDev := r.flags.blendDev || decide (i.bt1 < r.shareError) } },
     decide (i.bt2 < r.shareError))
  else (r, false)

/-- The blend window at a credited pulse in FUELING: it grows, and at W it closes with the correction and
the blend check (R36, R37). -/
def Sale.window (i : Image) (r : Sale) (p : Product) (cf : Nat) : Sale × Bool :=
  let r1 : Sale :=
    match p with
    | .low => { r with deltaL := r.deltaL + cf }
    | .high => { r with deltaH := r.deltaH + cf }
  if i.window * 1000000 ≤ r1.deltaH + r1.deltaL then (r1.correct i).blendCheck i else (r1, false)

/-- Learning: clamp(AN + trunc((V − target) / 2), 0, 200) (R32). -/
def learned (r : Sale) : Nat :=
  (clampInt 0 200 ((r.an : Int) + ((r.volume : Int) - r.target).tdiv 2)).toNat

/-- The cumulative share reported by FP_STATUS, absent with T = 0 (R37, R40). -/
def Sale.shareItem (r : Sale) : Option Nat := if r.total = 0 then none else some (r.accH * 1000 / r.total)

/-- The times of one valve period in µs: h × Pv high, (1000 − h) × Pv low (R38). -/
def highTime (duty pv : Nat) : Nat := duty * pv
def lowTime (duty pv : Nat) : Nat := (1000 - duty) * pv

end Sys2Proof.Machine
end

