-- ==== Sys2Proof/Machine/Display.lean ====
section
/-! DEFINITION. The display field table and the module records (chapter 5): digit codes, values to show,
marking, wanted values, tests, the supply. What a failed or verified field does to a fueling point is in
Machine/DisplayEvents.lean. -/

namespace Sys2Proof.Machine

/-- Digit codes of a number over `k` places: 30h + digit, a place at or above `keep` being blank (20h)
while it and all higher digits are zero (R91). -/
def numberCodes (keep : Nat) : Nat → Nat → List Byte
  | 0, _ => []
  | k + 1, n =>
    (if keep ≤ k ∧ n / 10 ^ k = 0 then 0x20#8 else BitVec.ofNat 8 (0x30 + n / 10 ^ k % 10)) :: numberCodes keep k n

/-- Digit positions of a field (Table 5-2). -/
def fieldWidth (m : ModuleId) (p : FieldPos) : Nat :=
  if m.isPanel then 4
  else
    match p with
    | .f1 => 6
    | .f2 => 5
    | .f3 => 4

/-- The places that always carry digits: three in MONEY and VOLUME, all four in PRICE and NOZn (R91). -/
def fieldKeep (m : ModuleId) (p : FieldPos) : Nat :=
  if m.isPanel then 4
  else
    match p with
    | .f1 => 3
    | .f2 => 3
    | .f3 => 4

/-- The digit codes of a wanted value in a field (R91). -/
def wantedCodes (m : ModuleId) (p : FieldPos) (w : Wanted) : List Byte :=
  match w with
  | .number n => numberCodes (fieldKeep m p) (fieldWidth m p) n
  | .blank => List.replicate (fieldWidth m p) 0x20#8

/-- The test pattern: 38h in every position (R91). -/
def patternCodes (m : ModuleId) (p : FieldPos) : List Byte := List.replicate (fieldWidth m p) 0x38#8

/-- A module's check byte: (field id + sum of digit codes) mod 256 (R91). -/
def checkByte (p : FieldPos) (codes : List Byte) : Byte :=
  BitVec.ofNat 8 (p.id + (codes.map BitVec.toNat).sum)

/-- The bytes of a WRITE after the start condition (R94, Table 10-17). -/
def writeBytes (address : Nat) (p : FieldPos) (codes : List Byte) : List Byte :=
  BitVec.ofNat 8 (address * 2) :: BitVec.ofNat 8 p.id :: codes

/-- The address byte of a CHECK (Table 10-17). -/
def checkAddress (address : Nat) : Byte := BitVec.ofNat 8 (address * 2 + 1)

/-- The entry of a field. -/
def State.field (s : State) (m : ModuleId) (p : FieldPos) : Field := (s.module m).fields.get p

/-- Replace the entry of a field. -/
def State.setField (s : State) (m : ModuleId) (p : FieldPos) (x : Field) : State :=
  s.setModule m { s.module m with fields := (s.module m).fields.set p x }

/-- The value to show of a field, as digit codes (R92). -/
def State.toShow (s : State) (m : ModuleId) (p : FieldPos) : List Byte :=
  if s.dbc.blanked then wantedCodes m p .blank
  else if (s.module m).stage = .pattern then patternCodes m p
  else wantedCodes m p (s.field m p).wanted

/-- The field update in progress, if the bus is BUSY. -/
def Dbc.update (d : Dbc) : Option Update :=
  match d.bus with
  | .busy u => some u
  | _ => none

/-- The written value of a field's update in progress, if it has one. -/
def State.writing (s : State) (m : ModuleId) (p : FieldPos) : Option (List Byte) :=
  match s.dbc.update with
  | some u => if u.module = m ∧ u.field = p then some u.written else none
  | none => none

/-- A field marked dirty; its wait begins if it has none (R92). -/
def Field.mark (now : Clock) (x : Field) : Field :=
  { x with
    dirty := true
    dirtySince := some (x.dirtySince.getD now)
    staleReported := x.staleReported && x.dirtySince.isSome }

/-- A panel's generation is no longer proved (R86). -/
def State.clearPanel (s : State) (m : ModuleId) : State :=
  if m.isPanel then s.withPru { s.pru with panelVerified := s.pru.panelVerified.set m.fp none } else s

/-- Mark one field dirty; a panel field takes the panel verified generation away (R86, R92). -/
def State.markField (s : State) (m : ModuleId) (p : FieldPos) : State :=
  (s.setField m p ((s.field m p).mark s.miu.clock)).clearPanel m

/-- A forced marking of every field of a module (R92). -/
def State.markModule (s : State) (m : ModuleId) : State :=
  ((s.markField m .f1).markField m .f2).markField m .f3

/-- A forced marking of every field (R92). -/
def State.markAll (s : State) : State :=
  (((s.markModule .mod1).markModule .mod2).markModule .mod3).markModule .mod4

/-- Work out a field's value to show again: it is marked dirty when it differs from the verified value, or
from the written value of its update in progress (R92, R98). -/
def State.reconsider (s : State) (m : ModuleId) (p : FieldPos) : State :=
  match s.writing m p with
  | some w => if s.toShow m p = w then s else s.markField m p
  | none => if (s.field m p).verified = some (s.toShow m p) then s else s.markField m p

/-- An owner sets a wanted value (R92, R98). -/
def State.setWanted (s : State) (m : ModuleId) (p : FieldPos) (w : Wanted) : State :=
  (s.setField m p { s.field m p with wanted := w }).reconsider m p

/-- A field is clean: not dirty, no update in progress, verified at its value to show (R92). -/
def State.clean (s : State) (m : ModuleId) (p : FieldPos) : Bool :=
  !(s.field m p).dirty && (s.writing m p).isNone && decide ((s.field m p).verified = some (s.toShow m p))

/-- Every field of a module is clean. -/
def State.moduleClean (s : State) (m : ModuleId) : Bool := FieldPos.all.all (fun p => s.clean m p)

/-- The panel is settled: no field dirty or being updated, each verified at its wanted value (R96). -/
def State.panelSettled (s : State) (m : ModuleId) : Bool :=
  FieldPos.all.all (fun p =>
    !(s.field m p).dirty && (s.writing m p).isNone
      && decide ((s.field m p).verified = some (wantedCodes m p (s.field m p).wanted)))

/-- Whether a main display has verified MONEY, VOLUME and PRICE at these values (R55). -/
def State.mainShows (s : State) (f : Fp) (money volumeCl price : Nat) : Bool :=
  decide ((s.field f.main .f1).verified = some (wantedCodes f.main .f1 (.number money)))
    && decide ((s.field f.main .f2).verified = some (wantedCodes f.main .f2 (.number volumeCl)))
    && decide ((s.field f.main .f3).verified = some (wantedCodes f.main .f3 (.number price)))

/-- Set the three wanted values of a main display (R106). -/
def State.setMain (s : State) (f : Fp) (money volumeCl : Nat) (price : Wanted) : State :=
  ((s.setWanted f.main .f1 (.number money)).setWanted f.main .f2 (.number volumeCl)).setWanted f.main .f3 price

/-- The no-sale values: MONEY 0, VOLUME 0, PRICE blank (R106). -/
def State.setNoSale (s : State) (f : Fp) : State := s.setMain f 0 0 .blank

/-- A module test starts: stage PATTERN and a forced marking; one in progress is not restarted (R103). -/
def State.startTest (s : State) (m : ModuleId) : State :=
  if (s.module m).stage = .none then
    (s.setModule m { s.module m with stage := .pattern }).markModule m
  else s

/-- A test request: held while a recovery attempt runs, a test otherwise (R102, R103). -/
def State.requestTest (s : State) (m : ModuleId) : State :=
  match s.dbc.bus with
  | .recovering true _ => s.withDbc { s.dbc with heldTests := s.dbc.heldTests.set m true }
  | _ => s.startTest m

/-- A new recovery attempt on a STUCK bus (R102). -/
def State.startAttempt (s : State) : State :=
  match s.dbc.bus with
  | .stuck => s.withDbc { s.dbc with bus := .recovering true none }
  | _ => s

/-- Start the tests held by a recovery attempt, and one on every FAILED module (R102). -/
def State.startHeldTests (s : State) : State :=
  let start := fun (t : State) (m : ModuleId) =>
    if (s.module m).state = .failed || s.dbc.heldTests.get m then t.startTest m else t
  ModuleId.all.foldl start (s.withDbc { s.dbc with heldTests := .four false })

/-- Whether a module may be served: OK or under test, with a dirty field (R93). -/
def Module.eligible (m : Module) : Bool :=
  (decide (m.state = .ok) || decide (m.stage ≠ .none)) && FieldPos.all.any (fun p => (m.fields.get p).dirty)

/-- The first dirty field of a module in table order (R93). -/
def Module.firstDirty (m : Module) : Option FieldPos := FieldPos.all.find? (fun p => (m.fields.get p).dirty)

/-- The modules in rotation after a given one (R93). -/
def rotationAfter (m : ModuleId) : List ModuleId := [m.succ, m.succ.succ, m.succ.succ.succ, m]

/-- The module and field the rotation serves next (R93). -/
def Dbc.nextTurn (d : Dbc) : Option (ModuleId × FieldPos) :=
  match (rotationAfter d.rotation).find? (fun m => (d.modules.get m).eligible) with
  | some m => ((d.modules.get m).firstDirty).map (fun p => (m, p))
  | none => none

/-- A WRITE begins: the bus BUSY, the value to show kept as written, the dirty flag cleared (R94). -/
def State.beginWrite (s : State) (m : ModuleId) (p : FieldPos) (try2 : Bool) : State :=
  let s1 := s.withDbc { s.dbc with bus := .busy ⟨m, p, s.toShow m p, try2, .write⟩ }
  s1.setField m p { s1.field m p with dirty := false }

/-- Blanking done: every field of every OK module is clean and the bus is not RECOVERING (R108). -/
def State.blankingDone (s : State) : Bool :=
  (match s.dbc.bus with
   | .recovering _ _ => false
   | _ => true)
    && ModuleId.all.all (fun m => !decide ((s.module m).state = .ok) || s.moduleClean m)

/-- Blanking is ordered: blanked is set and every field takes a forced marking (R108). -/
def State.orderBlanking (s : State) : State := (s.withDbc { s.dbc with blanked := true }).markAll

/-- A module at the switch-off of the display supply: OK becomes UNKNOWN, no test, no verified value (R108). -/
def Module.unpowered (m : Module) : Module :=
  { m with
    state := if m.state = .ok then .unknown else m.state
    stage := .none
    fields := m.fields.map (fun x => { x with verified := none }) }

/-- The bus at the switch-off: an update or a recovery is abandoned; an attempt leaves it STUCK (R108). -/
def Bus.unpowered : Bus → Bus
  | .stuck => .stuck
  | .recovering true _ => .stuck
  | _ => .idle none

/-- The display supply is switched off (R108); the closed cause DISPLAY follows in Machine/Site.lean. The tests that an
abandoned recovery attempt held are dropped: DESIGN CHOICE, unsafe (assumption 54). -/
def State.displayOff (s : State) : State :=
  let d := s.dbc
  let s1 := s.withDbc
    { d with
      modules := d.modules.map Module.unpowered
      bus := d.bus.unpowered
      blanked := false
      heldTests := .four false }
  (s1.withSps { s1.sps with displaySupply := false }).markAll

/-- A field is stale: waiting for more than 1000 ms, not yet reported for this wait (R105). -/
def Field.stale (now : Clock) (x : Field) : Bool :=
  match x.dirtySince with
  | some t => decide (1000000 < (now - t).toNat) && !x.staleReported
  | none => false

/-- The three wanted values of a panel: the level-1 prices of the current set by the hose map (R85). -/
def State.panelWanted (s : State) (f : Fp) (n : Nozzle) : Wanted :=
  match (s.sus.image.hose.get f).get n with
  | none => .blank
  | some g =>
    match s.pru.current.get g with
    | some p => .number p.level1
    | none =>
      match Config.unpricedPanel g with
      | some v => .number v
      | none => .blank

/-- A panel's wanted values are set, without a marking. -/
def State.putPanelWanted (s : State) (f : Fp) : State :=
  let put := fun (t : State) (n : Nozzle) =>
    t.setField f.panel n.field { t.field f.panel n.field with wanted := s.panelWanted f n }
  Nozzle.all.foldl put s

/-- The panel is refreshed: the three wanted values, all three fields dirty whatever their values, no
generation proved (R85). -/
def State.refreshPanel (s : State) (f : Fp) : State := (s.putPanelWanted f).markModule f.panel

end Sys2Proof.Machine
end

