-- ==== Sys2Proof/Machine/Journal.lean ====
section
/-! DEFINITION. The sale journal and the totalizer store (chapter 7): slots, reservation, the entry through
a sale, settlement, totals with their check word. -/

namespace Sys2Proof.Machine

/-- All slot numbers, ascending. -/
def allSlots : List (Fin 32) := List.finRange 32

/-- The entry in a slot. -/
def Sj.slot (j : Sj) (i : Fin 32) : Option Entry := j.slots.get i

/-- Replace the entry in a slot. -/
def Sj.put (j : Sj) (i : Fin 32) (e : Option Entry) : Sj := { j with slots := j.slots.set i e }

/-- The number of slots whose entry, or its absence, meets a test. -/
def Sj.countSlots (j : Sj) (p : Option Entry → Bool) : Nat := (allSlots.filter (fun i => p (j.slot i))).length

/-- Whether a slot is FREE. -/
def slotFree (e : Option Entry) : Bool := e.isNone

/-- Whether a slot's entry is in a state. -/
def slotIs (st : EntryState) (e : Option Entry) : Bool :=
  match e with
  | some x => decide (x.state = st)
  | none => false

/-- The available count, FREE + SETTLED (7.4). -/
def Sj.available (j : Sj) : Nat := j.countSlots (fun e => slotFree e || slotIs .settled e)

/-- The present entries with their slots. -/
def Sj.entries (j : Sj) : List (Fin 32 × Entry) :=
  allSlots.filterMap (fun i => (j.slot i).map (fun e => (i, e)))

/-- Of the present entries meeting a test, the one with the smallest sequence number. -/
def Sj.oldest (j : Sj) (p : Entry → Bool) : Option (Fin 32 × Entry) :=
  (j.entries.filter (fun x => p x.2)).foldl
    (fun best x => match best with
      | none => some x
      | some b => if x.2.seq < b.2.seq then some x else some b) none

/-- Of the present entries meeting a test, the one with the highest sequence number. -/
def Sj.newest (j : Sj) (p : Entry → Bool) : Option (Fin 32 × Entry) :=
  (j.entries.filter (fun x => p x.2)).foldl
    (fun best x => match best with
      | none => some x
      | some b => if b.2.seq < x.2.seq then some x else some b) none

/-- The present entry with a sequence number, if any (R141). -/
def Sj.find (j : Sj) (seq : Nat) : Option (Fin 32 × Entry) :=
  j.entries.find? (fun x => decide (x.2.seq = seq))

/-- The slot a reservation takes: the lowest FREE one, or else the SETTLED one with the smallest sequence
number (R142). -/
def Sj.chooseSlot (j : Sj) : Option (Fin 32) :=
  match allSlots.find? (fun i => slotFree (j.slot i)) with
  | some i => some i
  | none => (j.oldest (fun e => decide (e.state = .settled))).map Prod.fst

/-- The next sequence number is exhausted once 4,294,967,295 has been given (R143). -/
def Sj.exhausted (j : Sj) : Bool := decide (4294967295 < j.nextSeq)

/-- A RESERVED entry as a reservation makes it (R142). -/
def Entry.fresh (seq : Nat) (f : Fp) (owner : Side) (token : Token) (limit : Limit) (level : Level) : Entry :=
  { state := .reserved
    seq := seq
    fp := f
    owner := owner
    token := token
    limit := limit
    level := level
    sale := none
    ended := none
    flags := .empty
    overShort := none
    settled := none }

/-- A reservation: the slot and sequence number given, or `none` for JOURNAL_FULL (R142, R143). -/
def Sj.reserve (j : Sj) (f : Fp) (owner : Side) (token : Token) (limit : Limit) (level : Level) :
    Option (EntryRef × Sj) :=
  if j.exhausted then none
  else
    match j.chooseSlot with
    | none => none
    | some i =>
      some (⟨i, j.nextSeq⟩,
        { j.put i (some (Entry.fresh j.nextSeq f owner token limit level)) with nextSeq := j.nextSeq + 1 })

/-- The test after a reservation: at or below the threshold with the flag set, JOURNAL_LOW (R147). -/
def State.lowTest (s : State) : State :=
  if s.sj.lowArmed && decide (s.sj.available ≤ s.sus.image.lowThreshold) then
    (s.withSj { s.sj with lowArmed := false }).raise .journalLow
  else s

/-- The low armed flag is set again when the available count stands above the threshold after a slot became available
(R147), also where it stood above it before: DESIGN CHOICE, unsafe (assumption 56). -/
def State.rearmLow (s : State) : State :=
  if s.sus.image.lowThreshold < s.sj.available then s.withSj { s.sj with lowArmed := true } else s

/-- Change the present entry in a slot. -/
def State.changeEntry (s : State) (i : Fin 32) (f : Entry → Entry) : State :=
  s.withSj (s.sj.put i ((s.sj.slot i).map f))

/-- A RESERVED entry becomes FREE at a drop (R146). -/
def State.freeSlot (s : State) (i : Fin 32) : State := (s.withSj (s.sj.put i none)).rearmLow

/-- The sale fields an entry takes at STARTING (R144). -/
def saleFieldsOf (r : Sale) (generation : Nat) (now : Stamp) : SaleFields :=
  { grade := r.grade
    price := r.price
    generation := generation
    target := r.target
    start := now
    volume := 0
    money := 0
    accL := 0
    accH := 0 }

/-- A RESERVED entry becomes ACTIVE (R144). -/
def State.activateEntry (s : State) (i : Fin 32) (r : Sale) (generation : Nat) : State :=
  s.changeEntry i (fun e => { e with state := .active, sale := some (saleFieldsOf r generation s.sps.time) })

/-- The live fields of an entry take V, M and the accumulators in whole mL (R25, R144). -/
def Entry.withFigures (e : Entry) (r : Sale) : Entry :=
  { e with
    sale := e.sale.map (fun x =>
      { x with volume := r.volume, money := r.money, accL := r.accL / 1000000, accH := r.accH / 1000000 })
    flags := e.flags.union
      { RecordFlags.empty with
        saturated := r.flags.saturated
        blendDev := r.flags.blendDev
        extraNozzle := r.flags.extraNozzle } }

/-- Write a sale's live figures and flags to its entry (R144). -/
def State.writeLive (s : State) (i : Fin 32) (r : Sale) : State := s.changeEntry i (fun e => e.withFigures r)

/-- An ACTIVE entry becomes UNSETTLED with the final figures, flags and over/short (R145). -/
def State.endEntry (s : State) (i : Fin 32) (r : Sale) (reason : EndReason) : State :=
  s.changeEntry i (fun e =>
    { e.withFigures r with
      state := .unsettled
      ended := some (s.sps.time, reason)
      flags := e.flags.union r.flags
      overShort := r.overShort })

/-! ### Totals -/

/-- 2^64 − 1, 2^32 − 1, 65535: the largest values of the block's items (Table 7-5, R152). -/
def max64 : Nat := 18446744073709551615
def max32 : Nat := 4294967295

/-- One update of the totalizer block, with the matching update of the check word unless the totals are
corrupt (R154). -/
def State.updateTotals (s : State) (f : Totals → Totals) : State :=
  let t := f s.sj.totals
  s.withSj { s.sj with totals := t, checkWord := if s.sj.totalsCorrupt then s.sj.checkWord else t.check }

/-- The block after a credited pulse: the meter volume, and the unassigned volume outside a sale (R152). -/
def Totals.credited (m : Meter) (cf : Nat) (toSale : Bool) (t : Totals) : Totals :=
  { t with
    meterVolume := t.meterVolume.set m (satAdd max64 (t.meterVolume.get m) cf)
    unassigned := if toSale then t.unassigned else t.unassigned.set m (satAdd max64 (t.unassigned.get m) cf) }

/-- The block after an end of sale (R145). -/
def Totals.soldOn (f : Fp) (g : Grade) (volume money : Nat) (t : Totals) : Totals :=
  { t with
    gradeVolume := t.gradeVolume.set g (satAdd max64 (t.gradeVolume.get g) volume)
    gradeMoney := t.gradeMoney.set g (satAdd max64 (t.gradeMoney.get g) money)
    saleCount := t.saleCount.set f (satAdd max32 (t.saleCount.get f) 1) }

/-- The block after an accepted CF change (R153). -/
def Totals.calibrated (now : Stamp) (t : Totals) : Totals :=
  { t with calibrations := satAdd 65535 t.calibrations 1, lastCalibration := some now }

/-- The check word is recomputed over the block as it stands, and the corrupt flag cleared (R155). -/
def State.recomputeCheck (s : State) : State :=
  s.withSj { s.sj with checkWord := s.sj.totals.check, totalsCorrupt := false }

/-! ### Settlement -/

/-- An UNSETTLED entry becomes SETTLED (R148, R149). -/
def State.settleEntry (s : State) (i : Fin 32) (by_ : SettledBy) : State :=
  (s.changeEntry i (fun e => { e with state := .settled, settled := some (by_, s.sps.time) })).rearmLow

/-- The settlement cases after the entry is found and may be touched (R148, R149). -/
def State.settleFound (s : State) (i : Fin 32) (e : Entry) (by_ : SettledBy) : Result × State :=
  match e.state with
  | .reserved => (.busy, s)
  | .active => (.busy, s)
  | .settled => (.already, s)
  | .unsettled => (.ok, s.settleEntry i by_)

/-- Settlement by a side (R148); the reader names the fueling point too (R131). -/
def State.settleBy (s : State) (side : Side) (f : Option Fp) (seq : Nat) (token : Token) : Result × State :=
  match s.sj.find seq with
  | none => (.noEntry, s)
  | some (i, e) =>
    if f.isSome && decide (f ≠ some e.fp) then (.noEntry, s)
    else if e.owner ≠ side then (.notPermitted, s)
    else if e.token ≠ token then (.badField, s)
    else s.settleFound i e (match side with
      | .control => .control
      | .reader => .reader)

/-- Take-over by the control side (R149). -/
def State.takeOver (s : State) (seq : Nat) : Result × State :=
  match s.sj.find seq with
  | none => (.noEntry, s)
  | some (i, e) =>
    if e.owner = .control then (.notPermitted, s)
    else
      match s.riu.link with
      | .active => (.notPermitted, s)
      | .warning => (.notPermitted, s)
      | .recovering => (.notPermitted, s)
      | _ => s.settleFound i e .takeOver

/-! ### The hold candidate -/

/-- Set the hold candidate of a fueling point (R157). -/
def State.setCandidate (s : State) (f : Fp) (c : Option EntryRef) : State :=
  s.withSj { s.sj with holdCandidates := s.sj.holdCandidates.set f c }

/-- Both hold candidates become none (R157, R178). -/
def State.clearCandidates (s : State) : State := s.withSj { s.sj with holdCandidates := .both none }

/-- The flag HOLD_SHOWN joins the hold entry, if it is still present, UNSETTLED or SETTLED (R107, R145). -/
def State.addHoldShown (s : State) (f : Fp) : State :=
  match s.sj.holdEntries.get f with
  | none => s
  | some r =>
    match s.sj.slot r.slot with
    | none => s
    | some e =>
      if e.seq = r.seq ∧ (e.state = .unsettled ∨ e.state = .settled) then
        s.changeEntry r.slot (fun x => { x with flags := { x.flags with holdShown := true } })
      else s

/-! ### Power-up recovery -/

/-- The check of the totalizer block as read from the store (R155); the lock follows in Machine/Site.lean. -/
def State.totalsCheck (s : State) : State :=
  if s.sj.totals.check = s.sj.checkWord then s
  else (s.withSj { s.sj with totalsCorrupt := true }).raise .totalsCorrupt

/-- One slot at power-up recovery: RESERVED becomes FREE, ACTIVE becomes UNSETTLED INTERRUPTED with its
totals added and its fueling point's hold entry named (R156, R157). -/
def State.recoverSlot (s : State) (i : Fin 32) : State :=
  match s.sj.slot i with
  | none => s
  | some e =>
    match e.state with
    | .reserved =>
      let s1 := s.freeSlot i
      s1.withSps { s1.sps with freedCount := s1.sps.freedCount + 1 }
    | .active =>
      let s1 := s.changeEntry i (fun x => { x with state := .unsettled, ended := some (s.sps.time, .interrupted) })
      let s2 :=
        match e.sale with
        | some x => s1.updateTotals (Totals.soldOn e.fp x.grade x.volume x.money)
        | none => s1
      let s3 := s2.withSj { s2.sj with holdEntries := s2.sj.holdEntries.set e.fp (some ⟨i, e.seq⟩) }
      s3.withSps { s3.sps with interruptedCount := s3.sps.interruptedCount + 1 }
    | .unsettled => s
    | .settled => s

/-- The hold entry of a fueling point when no entry was interrupted: its candidate, if that entry is still
present with reason POWER_LOSS. The candidate then becomes none (R157). -/
def State.nameHold (s : State) (f : Fp) : State :=
  let s1 :=
    match s.sj.holdEntries.get f, s.sj.holdCandidates.get f with
    | none, some r =>
      match s.sj.slot r.slot with
      | some e =>
        if e.seq = r.seq ∧ e.ended.map Prod.snd = some EndReason.powerLoss then
          s.withSj { s.sj with holdEntries := s.sj.holdEntries.set f (some r) }
        else s
      | none => s
    | _, _ => s
  s1.setCandidate f none

/-- Power-up recovery of the journal (R156, R157). -/
def State.recoverJournal (s : State) : State :=
  let s1 := s.withSps { s.sps with interruptedCount := 0, freedCount := 0 }
  ((allSlots.foldl State.recoverSlot s1).nameHold .fp1).nameHold .fp2

end Sys2Proof.Machine
end

