-- ==== Sys2Proof/Machine/Store.lean ====
section
/-! DEFINITION. Writing the stored record (R186): what a write takes, asking for one, and its completion. -/

namespace Sys2Proof.Machine

/-- The items a write takes, as they stand when it begins (R186). -/
def State.storedItems (s : State) : StoredItems where
  image := s.sus.image
  schedule := s.sps.schedule
  policy := s.riu.policy
  prices := s.pru.current
  generation := s.pru.generation

/-- How many writes are in progress or waiting. -/
def Sus.writes (u : Sus) : Nat :=
  match u.writing with
  | none => 0
  | some w => w.queued + 1

/-- Ask for a write: it begins at once, or waits behind the one in progress (R186). -/
def State.askWrite (s : State) : State :=
  match s.sus.writing with
  | none => s.withSus { s.sus with writing := some ⟨s.storedItems, 0⟩ }
  | some w => s.withSus { s.sus with writing := some { w with queued := w.queued + 1 } }

/-- Ask for a write unless the settings are lost (R186, R196). -/
def State.askWriteUnlessLost (s : State) : State := if s.sus.settingsLost then s else s.askWrite

/-- The write in progress completes: the record holds its items and their check word, and a waiting
write begins with the items as they stand now (R186). -/
def State.completeWrite (s : State) : State :=
  match s.sus.writing with
  | none => s
  | some w =>
    s.withSus
      { s.sus with
        stored := ⟨w.items, some w.items.check⟩
        writing := if w.queued = 0 then none else some ⟨s.storedItems, w.queued - 1⟩ }

end Sys2Proof.Machine
end

