-- ==== Sys2Proof/Machine/Prices.lean ====
section
/-! DEFINITION. The price unit (chapter 4): activation, adoption, the price sets at a LEAVE_SETUP. -/

namespace Sys2Proof.Machine

/-- The generation after this one: 1 follows 65535 (R82). -/
def nextGeneration (g : Nat) : Nat := if 65535 ≤ g then 1 else g + 1

/-- A grade counts as defined for STAGE_PRICES: in the image in force or, in SETUP, in the edit image (R77). -/
def Sus.definedForPrices (u : Sus) (g : Grade) : Bool :=
  u.image.defined g ||
    (match u.edit with
     | some e => e.defined g
     | none => false)

/-- A fueling point adopts the current generation, and its panel is refreshed (R83, R85). -/
def State.adopt (s : State) (f : Fp) : State :=
  (s.setFp f { s.fp f with appliedGen := s.pru.generation }).refreshPanel f

/-- The applied generation is brought up to the current one if they differ (R43, R64). -/
def State.bringUp (s : State) (f : Fp) : State :=
  if (s.fp f).appliedGen = s.pru.generation then s else s.adopt f

/-- A fueling point takes a new generation: deferred in a sale, adopted at once otherwise (R83). -/
def State.takeGeneration (s : State) (f : Fp) : State :=
  if s.inSale f then s.withPru { s.pru with adoptionDue := s.pru.adoptionDue.set f true } else s.adopt f

/-- Adoption at the end of a sale when it is due (R84). -/
def State.adoptIfDue (s : State) (f : Fp) : State :=
  if s.pru.adoptionDue.get f then
    (s.withPru { s.pru with adoptionDue := s.pru.adoptionDue.set f false }).adopt f
  else s

/-- Steps 1 to 3 of an activation (R82). -/
def State.makeCurrent (s : State) (set : PriceSet) : State :=
  (s.withPru { s.pru with current := set, pendingSet := none, generation := nextGeneration s.pru.generation }).raise
    .priceApplied

/-- Activation of a set (R82). -/
def State.activate (s : State) (set : PriceSet) : State :=
  (((s.makeCurrent set).askWriteUnlessLost).takeGeneration .fp1).takeGeneration .fp2

/-- Activation of a pending AT set whose seconds the valid site time has come to equal (R81). -/
def State.activateIfDue (s : State) : State :=
  match s.pru.pendingSet with
  | some p => if s.sps.time.valid ∧ s.sps.time.seconds = p.atSeconds then s.activate p.set else s
  | none => s

/-- A set with every grade an image leaves unused made unpriced (R88, R90). -/
def PriceSet.fitted (i : Image) (set : PriceSet) : PriceSet :=
  PerGrade.of (fun g => if i.defined g then set.get g else none)

/-- Whether a set prices exactly the grades an image defines (R88). -/
def PriceSet.fits (i : Image) (set : PriceSet) : Bool :=
  Grade.all.all (fun g => i.defined g == (set.get g).isSome)

/-- The price sets brought into line with the image in force at a LEAVE_SETUP (R88). -/
def State.fitPrices (s : State) : State :=
  let keep := match s.pru.pendingSet with
    | some p => if PriceSet.fits s.sus.image p.set then some p else none
    | none => none
  ((s.withPru { s.pru with current := s.pru.current.fitted s.sus.image, pendingSet := keep }).refreshPanel
    .fp1).refreshPanel .fp2

end Sys2Proof.Machine
end

