-- ==== Sys2Proof/Machine/ReaderQueue.lean ====
section
/-! DEFINITION. The outgoing queue to the reader (R132): pushes, reserved places, emptying. -/

namespace Sys2Proof.Machine

/-- Whether the outgoing queue has a free place; a reserved place counts as occupied (R132). -/
def Riu.hasRoom (r : Riu) : Bool := decide (r.queue.length < 8)

/-- A push that is not queued, or removed unsent, is counted (R132). -/
def Riu.losePush (r : Riu) : Riu := { r with lostPushes := satAdd 65535 r.lostPushes 1 }

/-- Whether a push offered now is discarded: FENCED, OFF, or no free place (R132). -/
def Riu.refusesPush (r : Riu) : Bool :=
  decide (r.link = .fenced) || decide (r.link = .off) || !r.hasRoom

/-- A push is offered to the outgoing queue (R132). -/
def Riu.offer (r : Riu) (f : ReaderFrame) : Riu :=
  if r.refusesPush then r.losePush else { r with queue := r.queue ++ [.frame f] }

/-- A push is offered by a fueling point (R48, R62). -/
def State.push (s : State) (f : ReaderFrame) : State := s.withRiu (s.riu.offer f)

/-- Whether a frame is a push (R132). -/
def ReaderFrame.isPush : ReaderFrame → Bool
  | .saleDone _ _ => true
  | .authEnded _ _ _ => true
  | _ => false

/-- Whether a queue entry is a push. -/
def OutEntry.isPush : OutEntry → Bool
  | .frame f => f.isPush
  | .reserved => false

/-- Whether a queue entry is a HOST_TEXT. -/
def OutEntry.isText : OutEntry → Bool
  | .frame (.hostText _ _) => true
  | _ => false

/-- A HOST_TEXT in stage QUEUED or SENT completes (R134, R118, R120). -/
def Riu.endText (r : Riu) (c : Completion) : Riu :=
  if r.textStage = .none then r else { r with textStage := .none, completion := c }

/-- The queue is emptied, each push removed counted as lost; a HOST_TEXT in progress fails (step 1 of R118). -/
def Riu.emptyQueue (r : Riu) : Riu :=
  Riu.endText
    { r with queue := [], lostPushes := satAdd 65535 r.lostPushes (r.queue.filter OutEntry.isPush).length } .failed

/-- A place is reserved for the reply of the request being judged (R126). -/
def Riu.reserve (r : Riu) : Riu := { r with queue := r.queue ++ [.reserved] }

/-- The first reserved place of a list takes a frame. -/
def fillFirst (f : ReaderFrame) : List OutEntry → List OutEntry
  | [] => []
  | .reserved :: rest => .frame f :: rest
  | e :: rest => e :: fillFirst f rest

/-- A reply joins in the place reserved for it (R126, R132). -/
def Riu.fill (r : Riu) (f : ReaderFrame) : Riu := { r with queue := fillFirst f r.queue }

end Sys2Proof.Machine
end

