-- ==== Sys2Proof/Machine/Pumps.lean ====
section
/-! DEFINITION. The pump start gate (3.9): demand, the start queue, grants, run-on, the freeze. What a pump
that becomes RUNNING or FAILED does to the fueling points is in Machine/PumpEvents.lean. -/

namespace Sys2Proof.Machine

/-- A pump's contactor is closed in STARTING, PRIMING, RUNNING and RUN_ON (R70 to R74). -/
def PumpState.contactor : PumpState → Bool
  | .starting => true
  | .priming => true
  | .running => true
  | .runOn => true
  | _ => false

/-- The state, demand and cause with every timer stopped. -/
def PumpRec.stopTimers (r : PumpRec) : PumpRec := { r with feedbackTimer := none, primeTimer := none, runOnTimer := none }

/-- The feedback timer that watches an open contactor: running while feedback is asserted (R71). -/
def State.watchTimer (s : State) (p : Pump) : Timer :=
  if s.pins.feedback.get p then some (ms s.sus.image.feedback) else none

/-- A pump enters OFF: its contactor opens, its timers stop, and feedback still asserted starts its timer (R71). -/
def State.pumpOff (s : State) (p : Pump) : State :=
  s.setPump p { (s.pump p).stopTimers with state := .off, feedbackTimer := s.watchTimer p }

/-- The run-on begins, or with a run-on time of 0 the contactor opens at once (R69). -/
def State.pumpRunOn (s : State) (p : Pump) : State :=
  if s.sus.image.runOn = 0 then s.pumpOff p
  else
    s.setPump p
      { (s.pump p).stopTimers with state := .runOn, runOnTimer := some (sec s.sus.image.runOn) }

/-- Whether the inrush gap has passed since the last contactor start (R70). -/
def State.gapPassed (s : State) : Bool := decide (ms s.sus.image.inrushGap ≤ s.psg.sinceStart)

/-- The grant of the head of the queue (R70). -/
def State.grant (s : State) (p : Pump) (rest : List Pump) : State :=
  (s.withPsg { s.psg with queue := rest, sinceStart := 0 }).setPump p
    { (s.pump p) with state := .starting, feedbackTimer := some (ms s.sus.image.feedback) }

/-- The gate tests its conditions for the head of the queue (R70). -/
def State.gate (s : State) : State :=
  match s.psg.queue with
  | [] => s
  | p :: rest => if s.sps.seq.trading && s.gapPassed then s.grant p rest else s

/-- A pump is queued from OFF; joining an empty queue tests the gate (R69, R70). -/
def State.enqueue (s : State) (p : Pump) : State :=
  let s1 := (s.setPump p { s.pump p with state := .queued })
  let s2 := s1.withPsg { s1.psg with queue := s1.psg.queue ++ [p] }
  if s.psg.queue.isEmpty then s2.gate else s2

/-- A pump leaves the queue; a change of the head tests the gate (R70). -/
def State.dequeue (s : State) (p : Pump) : State :=
  let s1 := s.withPsg { s.psg with queue := s.psg.queue.filter (fun q => decide (q ≠ p)) }
  if s.psg.queue.head? = some p then s1.gate else s1

/-- Demand rises (R68, R69). -/
def State.demandRise (s : State) (p : Pump) : State :=
  let r := s.pump p
  let s1 := s.setPump p { r with demand := r.demand + 1 }
  match r.state with
  | .off => s1.enqueue p
  | .runOn => s1.setPump p { s1.pump p with state := .running, runOnTimer := none }
  | _ => s1

/-- Demand falls (R68, R69). -/
def State.demandFall (s : State) (p : Pump) : State :=
  let r := s.pump p
  let s1 := s.setPump p { r with demand := r.demand - 1 }
  if r.demand - 1 = 0 then
    match r.state with
    | .queued => (s1.setPump p { s1.pump p with state := .off }).dequeue p
    | .running => s1.pumpRunOn p
    | _ => s1
  else s1

/-- A pump reaches RUNNING, and with no demand goes on at once to RUN_ON (R69, R71). -/
def State.reachRunning (s : State) (p : Pump) : State :=
  let s1 := s.setPump p { (s.pump p).stopTimers with state := .running }
  if (s.pump p).demand = 0 then s1.pumpRunOn p else s1

/-- Feedback is asserted in STARTING: the pump primes, or with a prime time of 0 is RUNNING (R71). -/
def State.startPriming (s : State) (p : Pump) : State :=
  if s.sus.image.prime = 0 then s.reachRunning p
  else
    s.setPump p
      { (s.pump p).stopTimers with state := .priming, primeTimer := some (ms s.sus.image.prime) }

/-- A pump record goes to FAILED: contactor open, timers stopped, out of the queue, PUMP_FAIL raised (R72). -/
def State.pumpFailed (s : State) (p : Pump) (c : PumpCause) : State :=
  (((s.setPump p { (s.pump p).stopTimers with state := .failed, cause := c }).raise .pumpFail).dequeue p)

/-- A grade's demand is registered on each pump it needs, PUMP-L before PUMP-H (R54, R68). -/
def State.register (s : State) (t : Nat) : State :=
  let s1 := if needsPump t .pumpL then s.demandRise .pumpL else s
  if needsPump t .pumpH then s1.demandRise .pumpH else s1

/-- A sale's demand is withdrawn from each pump (R62), PUMP-L before PUMP-H: DESIGN CHOICE, unsafe (assumption 52). -/
def State.withdraw (s : State) (t : Nat) : State :=
  let s1 := if needsPump t .pumpL then s.demandFall .pumpL else s
  if needsPump t .pumpH then s1.demandFall .pumpH else s1

/-- Whether every pump a grade needs is in a state. -/
def State.needed (s : State) (t : Nat) (st : PumpState) : Bool :=
  Pump.all.all (fun p => !needsPump t p || decide ((s.pump p).state = st))

/-- Whether some pump a grade needs is FAILED (R53). -/
def State.neededFailed (s : State) (t : Nat) : Bool :=
  Pump.all.any (fun p => needsPump t p && decide ((s.pump p).state = .failed))

/-- One pump at a freeze: OFF unless FAILED (R74). -/
def State.freezePump (s : State) (p : Pump) : State :=
  match (s.pump p).state with
  | .failed => s
  | .off => s
  | _ => s.pumpOff p

/-- Both contactors open and the start queue empties (R74). -/
def State.freezePumps (s : State) : State :=
  ((s.withPsg { s.psg with queue := [] }).freezePump .pumpL).freezePump .pumpH

/-- Whether SHUTTING opens this pump's contactor: STARTING, PRIMING or RUN_ON (R74). -/
def PumpState.shuts : PumpState → Bool
  | .starting => true
  | .priming => true
  | .runOn => true
  | _ => false

/-- One pump at SHUTTING (R74). -/
def State.shutPump (s : State) (p : Pump) : State := if (s.pump p).state.shuts then s.pumpOff p else s

/-- The time left until the inrush gap has passed (Table 10-3). -/
def State.gapLeft (s : State) : Option Nat :=
  if s.gapPassed then none else some (ms s.sus.image.inrushGap - s.psg.sinceStart)

end Sys2Proof.Machine
end

