-- ==== Sys2Proof/Machine/FuelingPoint.lean ====
section
/-! DEFINITION. The fueling point controller (chapter 3) over the blocks below it: closed causes, locks,
drops, the start check, STARTING, FUELING, stopping, the end of a sale, faults, the freeze. -/

namespace Sys2Proof.Machine

/-! ### Nozzles and landing states -/

/-- The nozzles that are up. -/
def Fpc.upList (c : Fpc) : List Nozzle := Nozzle.all.filter (fun n => c.nozzleUp.get n)

/-- The waiting condition of CALLING: NOZZLE_CONFLICT with two or more nozzles up (R44). -/
def callingWait (up : List Nozzle) : Waiting := if 2 ≤ up.length then .nozzleConflict else .none

/-- IDLE with no nozzle up, CALLING otherwise, with no sale nozzle (R43, R44). -/
def Fpc.openUp (c : Fpc) : Fpc :=
  if c.upList.isEmpty then { c with state := .idle, waiting := .none, saleNozzle := none }
  else { c with state := .calling, waiting := callingWait c.upList, saleNozzle := none }

/-- CLOSED, with no sale nozzle (R43). That NOZZLE_CONFLICT of a CALLING fueling point does not outlast it is a DESIGN
CHOICE, unsafe (assumption 65). -/
def Fpc.close (c : Fpc) : Fpc := { c with state := .closed, waiting := .none, saleNozzle := none }

/-- The state a fueling point lands in outside a sale and a lock: CLOSED while a closed cause is present,
IDLE or CALLING otherwise (R43, R48, R62, R64). DEDUCED, safe (assumption 25). -/
def Fpc.land (c : Fpc) : Fpc := if c.closedCauses.any then c.close else c.openUp

/-- The grade of a nozzle, if it is mapped to one that is defined in setup (R44). -/
def State.nozzleGrade (s : State) (f : Fp) (n : Nozzle) : Option Grade :=
  match (s.sus.image.hose.get f).get n with
  | some g => if s.sus.image.defined g then some g else none
  | none => none

/-- Whether a nozzle is permitted for an allowed grade set (R44). -/
def State.permitted (s : State) (f : Fp) (grades : BitVec 6) (n : Nozzle) : Bool :=
  match s.nozzleGrade f n with
  | some g => gradeIn grades g
  | none => false

/-! ### Closed causes and locks -/

/-- A closed cause is added: IDLE, CALLING and ENDED go to CLOSED (R43). -/
def Fpc.addClosed (c : Fpc) (k : ClosedCause) : Fpc :=
  let c1 := { c with closedCauses := c.closedCauses.put k true }
  match c.state with
  | .idle => c1.close
  | .calling => c1.close
  | .ended => c1.close
  | _ => c1

def State.addClosed (s : State) (f : Fp) (k : ClosedCause) : State := s.setFp f ((s.fp f).addClosed k)

/-- A closed cause is removed: CLOSED with none left goes to IDLE or CALLING, its applied generation
brought up (R43). -/
def State.removeClosed (s : State) (f : Fp) (k : ClosedCause) : State :=
  let c := { s.fp f with closedCauses := (s.fp f).closedCauses.put k false }
  if c.state = .closed ∧ c.closedCauses.any = false then (s.setFp f c.openUp).bringUp f else s.setFp f c

/-- Whether both modules of a fueling point are OK (R43). -/
def State.displaysOk (s : State) (f : Fp) : Bool :=
  decide ((s.module f.main).state = .ok) && decide ((s.module f.panel).state = .ok)

/-- Closed cause DISPLAY is set from the states of the two modules (R43). -/
def State.setDisplayCause (s : State) (f : Fp) : State :=
  if s.displaysOk f then s.removeClosed f .display else s.addClosed f .display

/-- A fueling point enters LOCKED with its lock causes, or in LOCKED takes further ones (R61, R63). That NOZZLE_CONFLICT
of a CALLING fueling point does not outlast it is a DESIGN CHOICE, unsafe (assumption 65). -/
def State.lock (s : State) (f : Fp) (causes : LockCauses) : State :=
  let c := s.fp f
  if c.state = .locked then s.setFp f { c with lockCauses := c.lockCauses.union causes }
  else
    (s.setFp f
      { c with
        state := .locked
        lockCauses := causes
        noted := .empty
        lockAfterSale := false
        waiting := .none
        saleNozzle := none }).raiseFor .fpLocked f

/-! ### Drops -/

/-- The push of a drop, for a reader-owned authorization (R48). -/
def State.pushEnded (s : State) (f : Fp) (a : Auth) (cause : DropCause) : State :=
  match a.owner with
  | .control => s
  | .reader => s.push (.authEnded f a.seq cause)

/-- The context after a drop: no authorization, in its landing state (R48). -/
def Fpc.dropped (c : Fpc) : Fpc := { c with auth := none, expiryTimer := none, waiting := .none }.land

/-- An authorization is dropped (R48). Cause FAULT is followed by a lock. -/
def State.drop (s : State) (f : Fp) (cause : DropCause) : State :=
  match (s.fp f).auth with
  | none => s
  | some a =>
    let s1 := s.freeSlot a.slot
    let s2 := s1.setFp f (s1.fp f).dropped
    (s2.raiseFor .authEnded f).pushEnded f a cause

/-- Drop the authorization if the fueling point is ARMED. -/
def State.dropArmed (s : State) (f : Fp) (cause : DropCause) : State :=
  if (s.fp f).state = .armed then s.drop f cause else s

/-- Whether a fueling point holds a reader-owned authorization in ARMED. -/
def Fpc.armedByReader (c : Fpc) : Bool :=
  decide (c.state = .armed) && decide (c.auth.map Auth.owner = some Side.reader)

/-- Drop a reader-owned authorization held in ARMED (R118, R120). -/
def State.dropReader (s : State) (f : Fp) (cause : DropCause) : State :=
  if (s.fp f).armedByReader then s.drop f cause else s

/-! ### Valves -/

/-- A valve follows its duty: a running period goes on, a first non-zero duty starts one with its high
interval, duty 0 stops it at once (R38, R39). -/
def driveValve (duty pv : Nat) (v : Option ValvePeriod) : Option ValvePeriod :=
  if duty = 0 then none
  else
    match v with
    | some x => some x
    | none => some ⟨duty, true, some (highTime duty pv)⟩

/-- The duties in force: those of the sale in FUELING, 0 in every other state (R39). -/
def Fpc.dutyOf (c : Fpc) (p : Product) : Nat :=
  match c.state, c.sale, p with
  | .fueling, some r, .low => r.dutyL
  | .fueling, some r, .high => r.dutyH
  | _, _, _ => 0

/-- Both valves follow their duties (R38, R39). -/
def Fpc.driveValves (c : Fpc) (pv : Nat) : Fpc :=
  { c with valveL := driveValve (c.dutyOf .low) pv c.valveL, valveH := driveValve (c.dutyOf .high) pv c.valveH }

/-! ### The end of a sale -/

/-- The lock causes at the end of a sale (R62). -/
def Fpc.endCauses (c : Fpc) (reason : EndReason) : LockCauses :=
  (reason.lockCauses.union c.noted).union (if c.lockAfterSale then .ofDisplay else .empty)

/-- Whether the sale nozzle is up. -/
def Fpc.saleNozzleUp (c : Fpc) : Bool :=
  match c.saleNozzle with
  | some n => c.nozzleUp.get n
  | none => false

/-- The state after a sale: LOCKED, ENDED, or a landing state (R62). -/
def State.afterSale (s : State) (f : Fp) (reason : EndReason) : State :=
  let c := s.fp f
  if (c.endCauses reason).any then s.lock f (c.endCauses reason)
  else if c.closedCauses.any then s.setFp f c.close
  else if c.saleNozzleUp then s.setFp f { c with state := .ended, waiting := .none }
  else s.setFp f c.openUp

/-- Step 1 of R62 with the hold candidate of R157. -/
def State.endEntryOf (s : State) (f : Fp) (a : Auth) (r : Sale) (reason : EndReason) : State :=
  let s1 := s.endEntry a.slot r reason
  if reason = .powerLoss then s1.setCandidate f (some ⟨a.slot, a.seq⟩) else s1

/-- Step 3 of R62: learning after PRESET_REACHED with a limit (R32). -/
def State.learn (s : State) (f : Fp) (r : Sale) (reason : EndReason) : State :=
  if reason = .presetReached ∧ r.limit ≠ .none then
    s.withSj { s.sj with anticipation := s.sj.anticipation.set f (learned r) }
  else s

/-- Step 5 of R62: the notice, and the push for a reader-owned sale. -/
def State.announceSale (s : State) (f : Fp) (a : Auth) : State :=
  let s1 := s.raiseFor .saleDone f
  match a.owner with
  | .control => s1
  | .reader => s1.push (.saleDone f a.seq)

/-- The context as the end of a sale leaves it before its next state is chosen: timers and stop cause gone,
valves shut, no authorization, the last end reason taken (R62). -/
def Fpc.saleOver (c : Fpc) (reason : EndReason) : Fpc :=
  { c with
    auth := none
    expiryTimer := none
    noFlowTimer := none
    runOutTimer := none
    stopCause := none
    waiting := .none
    lastEnd := some reason
    valveL := none
    valveH := none }

/-- The end of a sale with given final registers: steps 1 to 7 of R62 in order, then the next state.
`registered` says whether the sale holds demand on its pumps (step 4). -/
def State.endSaleWith (s : State) (f : Fp) (a : Auth) (r : Sale) (reason : EndReason) (registered : Bool) : State :=
  let s1 := s.endEntryOf f a r reason
  let s2 := s1.updateTotals (Totals.soldOn f r.grade r.volume r.money)
  let s3 := s2.learn f r reason
  let s4 := if registered then s3.withdraw r.t else s3
  let s5 := s4.announceSale f a
  let s6 := s5.setFp f ((s5.fp f).saleOver reason)
  (s6.adoptIfDue f).afterSale f reason

/-- The registers of an ended sale: duties 0, no phase, the preset flags of R31 (R21, R31). -/
def Sale.finished (r : Sale) : Sale := { r with dutyL := 0, dutyH := 0, phase := none }.withPresetFlags

/-- The live sale ends (R62); its registers keep their final values. -/
def State.endSale (s : State) (f : Fp) (reason : EndReason) : State :=
  match (s.fp f).sale, (s.fp f).auth with
  | some r, some a => (s.setFp f { s.fp f with sale := some r.finished }).endSaleWith f a r.finished reason true
  | _, _ => s

/-! ### Stopping -/

/-- The context of a FUELING fueling point after a stop (R57). A fault's lock cause is noted, so that the fueling
point is LOCKED at the end of the sale whatever ends it (R5, R61; assumption 35). -/
def Fpc.stopped (c : Fpc) (i : Image) (r : Sale) (cause : StopCause) : Fpc :=
  { c with
    state := .stopping
    noted := c.noted.union cause.endReason.lockCauses
    sale := some r.closeValves
    stopCause := some cause
    noFlowTimer := none
    runOutTimer := some (ms i.runOut)
    valveL := none
    valveH := none }

/-- A FUELING sale stops (R57). -/
def State.stopSale (s : State) (f : Fp) (cause : StopCause) : State :=
  match (s.fp f).sale with
  | some r => s.setFp f ((s.fp f).stopped s.sus.image r cause)
  | none => s

/-- A stop cause PRESET becomes another (R51, R58, R60). -/
def State.replacePreset (s : State) (f : Fp) (cause : StopCause) : State :=
  if (s.fp f).stopCause = some .preset then s.setFp f { s.fp f with stopCause := some cause } else s

/-! ### Faults (R61) -/

/-- A meter fault, a main display failure or a stale main field in STOPPING (R60): the cause is replaced
unless it already is a locking one, and the lock cause is noted. -/
def Fpc.faultStopping (c : Fpc) (stop : StopCause) (lockCause : LockCauses) : Fpc :=
  { c with
    stopCause := if c.stopCause.any StopCause.isLocking then c.stopCause else some stop
    noted := c.noted.union lockCause }

/-- A meter of the fueling point becomes FAULTY, in the state of the fueling point (R61). -/
def State.meterFaultFp (s : State) (f : Fp) : State :=
  match (s.fp f).state with
  | .closed => s.lock f .ofMeter
  | .idle => s.lock f .ofMeter
  | .calling => s.lock f .ofMeter
  | .ended => s.lock f .ofMeter
  | .armed => (s.drop f .fault).lock f .ofMeter
  | .starting => s.endSale f .meterFault
  | .fueling => s.stopSale f .meterFault
  | .stopping => s.setFp f ((s.fp f).faultStopping .meterFault .ofMeter)
  | .locked => s.lock f .ofMeter

/-- A main display that failed, in the state of the fueling point; the closed cause is recorded with it
(R43, R61). -/
def State.mainFaultFp (s : State) (f : Fp) : State :=
  match (s.fp f).state with
  | .closed => s
  | .idle => s.lock f .ofDisplay
  | .calling => s.lock f .ofDisplay
  | .ended => s.lock f .ofDisplay
  | .armed => (s.drop f .fault).lock f .ofDisplay
  | .starting => s.endSale f .displayFault
  | .fueling => s.stopSale f .displayFault
  | .stopping => s.setFp f ((s.fp f).faultStopping .displayFault .ofDisplay)
  | .locked => s.lock f .ofDisplay

/-- A price panel that failed, in the state of the fueling point (R61). -/
def State.panelFaultFp (s : State) (f : Fp) : State :=
  match (s.fp f).state with
  | .closed => s
  | .idle => s.lock f .ofDisplay
  | .calling => s.lock f .ofDisplay
  | .ended => s.lock f .ofDisplay
  | .armed => (s.drop f .fault).lock f .ofDisplay
  | .starting => s.setFp f { s.fp f with lockAfterSale := true }
  | .fueling => s.setFp f { s.fp f with lockAfterSale := true }
  | .stopping => s.setFp f { s.fp f with lockAfterSale := true }
  | .locked => s.lock f .ofDisplay

/-! ### Staleness (R105) -/

/-- Whether staleness of a main field would be reported now: in FUELING or STOPPING, the module not FAILED
and the bus not STUCK (R105). -/
def State.watchesStale (s : State) (f : Fp) : Bool :=
  (decide ((s.fp f).state = .fueling) || decide ((s.fp f).state = .stopping))
    && decide ((s.module f.main).state ≠ .failed) && decide (s.dbc.bus ≠ .stuck)

/-- A stale main field: reported once for its wait, DISPLAY_FAULT, and the sale stops or its stop cause is
replaced (R105). -/
def State.reportStale (s : State) (f : Fp) (w : WatchedField) : State :=
  let s1 := s.setField f.main w.pos { s.field f.main w.pos with staleReported := true }
  let s2 := s1.raiseFor .displayFault f
  match (s2.fp f).state with
  | .fueling => s2.stopSale f .displayFault
  | .stopping => s2.setFp f ((s2.fp f).faultStopping .displayFault .ofDisplay)
  | _ => s2

/-- The staleness test of one field at an entry to FUELING (R105). -/
def State.staleTest (s : State) (f : Fp) (w : WatchedField) : State :=
  if s.watchesStale f && (s.field f.main w.pos).stale s.miu.clock then s.reportStale f w else s

/-- The staleness tests at an entry to FUELING (R105). -/
def State.staleTests (s : State) (f : Fp) : State := (s.staleTest f .money).staleTest f .volume

/-! ### The entry to FUELING -/

/-- The conditions of R55. -/
def State.mayFuel (s : State) (f : Fp) (r : Sale) : Bool :=
  decide ((s.fp f).state = .starting) && s.mainShows f r.money r.volumeCl r.price && s.needed r.t .running
    && (s.fp f).saleNozzleUp && s.sps.seq.trading

/-- The valves take their duties, unless an approach check already stops the sale (R28, R55). -/
def State.fuelWith (s : State) (f : Fp) (x : Sale × Option StopCause) : State :=
  let c := { s.fp f with
    state := .fueling, sale := some x.1, stopCause := none, runOutTimer := none }
  match x.2 with
  | some cause => (s.setFp f c).stopSale f cause
  | none => s.setFp f (c.driveValves s.sus.image.valvePeriod)

/-- The entry to FUELING from STARTING (R28, R34, R55, R59). -/
def State.enterFueling (s : State) (f : Fp) (r : Sale) : State :=
  let s1 := s.setFp f { s.fp f with noFlowTimer := some (sec s.sus.image.noFlow) }
  (s1.fuelWith f ((r.enterFast s.sus.image).approach s.sus.image)).staleTests f

/-- The test of R55 for a fueling point in STARTING. -/
def State.tryFueling (s : State) (f : Fp) : State :=
  match (s.fp f).sale with
  | some r => if s.mayFuel f r then s.enterFueling f r else s
  | none => s

/-- The re-entry to FUELING in phase TOPUP, with the no-flow timer at 5 s (R29, R59, R60). -/
def State.enterTopUp (s : State) (f : Fp) (r : Sale) : State :=
  let s1 := s.setFp f { s.fp f with noFlowTimer := some (sec 5) }
  (s1.fuelWith f (r.enterTopUp s.sus.image, none)).staleTests f

/-- The conditions of the top-up decision (R29): the nozzle of the sale is up, and was never hung in a run-out (R60). -/
def State.mayTopUp (s : State) (f : Fp) (r : Sale) : Bool :=
  decide (r.volume < r.target) && decide (r.target - r.volume ≤ 50) && !r.topUpDone && (s.fp f).saleNozzleUp
    && !r.hung && !(s.meter (f.meter .low)).faulty && !(s.meter (f.meter .high)).faulty && s.needed r.t .running
    && s.sps.seq.trading

/-- The end of run-out (R29, R60). -/
def State.runOutOver (s : State) (f : Fp) : State :=
  match (s.fp f).sale, (s.fp f).stopCause with
  | some r, some .preset => if s.mayTopUp f r then s.enterTopUp f r else s.endSale f .presetReached
  | some _, some cause => s.endSale f cause.endReason
  | _, _ => s

/-! ### The start check and STARTING -/

/-- The backlash of both meters is set to 0 (R7). -/
def State.clearBacklash (s : State) (f : Fp) : State :=
  let s1 := s.setMeter (f.meter .low) { s.meter (f.meter .low) with backlash := 0 }
  s1.setMeter (f.meter .high) { s1.meter (f.meter .high) with backlash := 0 }

/-- The last-sale hold ends at the entry to STARTING (R54, R183). -/
def State.dropHold (s : State) (f : Fp) : State :=
  let s1 := s.withSps { s.sps with holdTimers := s.sps.holdTimers.set f none }
  s1.setFp f { s1.fp f with hold := .none }

/-- The sale registers for a start with an authorization and a grade (R21). -/
def State.newSale (s : State) (f : Fp) (a : Auth) (g : Grade) : Sale :=
  Sale.start s.sus.image s.pru.current (s.sj.anticipation.get f) a g

/-- The entry to STARTING (R54), with the test of R55 (assumption 16). -/
def State.enterStarting (s : State) (f : Fp) (n : Nozzle) (a : Auth) (g : Grade) : State :=
  let r := s.newSale f a g
  let s1 := s.setFp f
    { s.fp f with
      state := .starting
      saleNozzle := some n
      expiryTimer := none
      waiting := .none
      sale := some r
      noted := .empty
      lockAfterSale := false }
  let s2 := s1.activateEntry a.slot r (s.fp f).appliedGen
  let s3 := s2.clearBacklash f
  let s4 := s3.setMain f 0 0 (.number r.price)
  let s5 := (s4.dropHold f).setCandidate f none
  (s5.register r.t).tryFueling f

/-- The PUMP_FAIL sale of a start check that meets a failed pump (R53): the entry is activated and ended,
no demand registered, the display and the sale registers left as they were (assumption 19). -/
def State.failStart (s : State) (f : Fp) (n : Nozzle) (a : Auth) (g : Grade) : State :=
  let r := s.newSale f a g
  let s1 := s.setFp f { s.fp f with saleNozzle := some n, expiryTimer := none, waiting := .none }
  (s1.activateEntry a.slot r (s.fp f).appliedGen).endSaleWith f a r .pumpFail false

/-- Set the waiting condition. -/
def State.wait (s : State) (f : Fp) (w : Waiting) : State := s.setFp f { s.fp f with waiting := w }

/-- The price test (R53): applied and panel verified generation both equal the current one. -/
def State.pricesProved (s : State) (f : Fp) : Bool :=
  decide ((s.fp f).appliedGen = s.pru.generation)
    && decide (s.pru.panelVerified.get f = some s.pru.generation)

/-- The meter test (R53, R64). -/
def State.metersOk (s : State) (f : Fp) : Bool :=
  !(s.meter (f.meter .low)).faulty && !(s.meter (f.meter .high)).faulty

/-- The start check with the one nozzle up and its grade (R53). -/
def State.startCheck (s : State) (f : Fp) (a : Auth) (n : Nozzle) (g : Grade) : State :=
  if !s.pricesProved f then s.wait f .priceWait
  else if !s.metersOk f then s
  else if s.neededFailed (s.sus.image.perMille g) then s.failStart f n a g
  else s.enterStarting f n a g

/-- The nozzles of an ARMED fueling point give its waiting condition, or its start check (R52). -/
def State.armedNozzles (s : State) (f : Fp) : State :=
  match (s.fp f).auth, (s.fp f).upList with
  | some _, [] => s.wait f .none
  | some a, [n] =>
    match s.nozzleGrade f n with
    | some g => if gradeIn a.grades g then s.startCheck f a n g else s.wait f .wrongNozzle
    | none => s.wait f .wrongNozzle
  | some _, _ => s.wait f .nozzleConflict
  | none, _ => s

/-! ### Authorizations -/

/-- What an authorizer asks for, after its clamps (R45, R127). -/
structure AuthAsk where
  owner  : Side
  token  : Token
  limit  : Limit
  level  : Level
  grades : BitVec 6
  expiry : Nat
  deriving DecidableEq, Repr

/-- The third check of R46: in CALLING with exactly one nozzle up, that nozzle is permitted. -/
def State.callingAllows (s : State) (f : Fp) (grades : BitVec 6) : Bool :=
  match (s.fp f).state, (s.fp f).upList with
  | .calling, [n] => s.permitted f grades n
  | _, _ => true

/-- The record of Table 3-3. -/
def AuthAsk.record (q : AuthAsk) (now : Stamp) (e : EntryRef) : Auth where
  owner := q.owner
  token := q.token
  limit := q.limit
  level := q.level
  grades := q.grades
  expiry := q.expiry
  accepted := now
  slot := e.slot
  seq := e.seq

/-- The context takes the authorization and goes to ARMED (R46). -/
def Fpc.arm (c : Fpc) (a : Auth) : Fpc :=
  { c with state := .armed, auth := some a, expiryTimer := some (sec a.expiry), waiting := .none }

/-- An authorization presented to a fueling point: the checks of R46 in order, then ARMED and its nozzles. -/
def State.authorize (s : State) (f : Fp) (q : AuthAsk) : Except Result EntryRef × State :=
  if ¬((s.fp f).state = .idle ∨ (s.fp f).state = .calling) then (.error .wrongState, s)
  else if s.sps.seq ≠ .opened then (.error .wrongState, s)
  else if !s.callingAllows f q.grades then (.error .gradeNotAllowed, s)
  else
    match s.sj.reserve f q.owner q.token q.limit q.level with
    | none => (.error .journalFull, s)
    | some (e, j) =>
      let s1 := (s.withSj j).lowTest
      (.ok e, (s1.setFp f ((s1.fp f).arm (q.record s.sps.time e))).armedNozzles f)

/-! ### Freeze and closing -/

/-- A fueling point at a freeze (R66). -/
def State.freezeFp (s : State) (f : Fp) : State :=
  match (s.fp f).state with
  | .starting => s.endSale f .powerLoss
  | .fueling => s.endSale f .powerLoss
  | .stopping => s.endSale f .powerLoss
  | .armed => s.drop f .power
  | _ => s

/-- A fueling point when the close grace runs out (R65). -/
def State.graceOver (s : State) (f : Fp) : State :=
  match (s.fp f).state with
  | .starting => s.endSale f .closing
  | .fueling => s.stopSale f .closing
  | .stopping => s.replacePreset f .closing
  | _ => s

/-- A fueling point when a pump its sale needs has become FAILED (R72). -/
def State.pumpFaultFp (s : State) (f : Fp) (p : Pump) : State :=
  match (s.fp f).state, (s.fp f).sale with
  | .starting, some r => if needsPump r.t p then s.endSale f .pumpFail else s
  | .fueling, some r => if needsPump r.t p then s.stopSale f .pumpFail else s
  | _, _ => s

/-! ### Pulses (R25) -/

/-- The live figures of a sale go to its entry (R25, R144). -/
def State.saveLive (s : State) (f : Fp) : State :=
  match (s.fp f).sale, (s.fp f).auth with
  | some r, some a => s.writeLive a.slot r
  | _, _ => s

/-- Replace the live sale registers and write them through to the entry. -/
def State.setSale (s : State) (f : Fp) (r : Sale) : State := (s.setFp f { s.fp f with sale := some r }).saveLive f

/-- The timers a credited pulse restarts: no-flow in FUELING, run-out in STOPPING (R59, R60). -/
def Fpc.restartFlow (c : Fpc) (i : Image) (r : Sale) : Fpc :=
  match c.state with
  | .fueling =>
    { c with noFlowTimer := some (if r.phase = some .topUp then sec 5 else sec i.noFlow) }
  | .stopping => { c with runOutTimer := some (ms i.runOut) }
  | _ => c

/-- Steps 5 and 6 of R25, in FUELING. -/
def State.creditFueling (s : State) (f : Fp) (r : Sale) (p : Product) (cf : Nat) : State :=
  let w := r.window s.sus.image p cf
  let s1 := s.setSale f w.1
  if w.2 then s1.stopSale f .blendFault
  else
    let x := w.1.approach s.sus.image
    let s2 := s1.setSale f x.1
    match x.2 with
    | some cause => s2.stopSale f cause
    | none => s2

/-- A credited pulse of a live sale (R25). -/
def State.creditSale (s : State) (f : Fp) (p : Product) (cf : Nat) : State :=
  match (s.fp f).sale with
  | none => s
  | some r =>
    let r1 := r.credited p cf
    let s1 := s.setSale f r1
    let s2 := (s1.setWanted f.main .f1 (.number r1.money)).setWanted f.main .f2 (.number r1.volumeCl)
    let s3 := s2.setFp f ((s2.fp f).restartFlow s.sus.image r1)
    if (s3.fp f).state = .fueling then s3.creditFueling f r1 p cf else s3

/-! ### Lifts and hangs (R44) -/

/-- EXTRA_NOZZLE joins the sale's flags and its entry's (R44, R144). -/
def State.extraNozzle (s : State) (f : Fp) : State :=
  match (s.fp f).sale with
  | some r => s.setSale f { r with flags := { r.flags with extraNozzle := true } }
  | none => s

/-- A nozzle position is taken into the context. -/
def State.takeNozzle (s : State) (f : Fp) (n : Nozzle) (up : Bool) : State :=
  s.setFp f { s.fp f with nozzleUp := (s.fp f).nozzleUp.set n up }

/-- A lift, in the state of the fueling point (R44, R52). -/
def State.lift (s : State) (f : Fp) (n : Nozzle) : State :=
  let s1 := s.takeNozzle f n true
  let c := s1.fp f
  match c.state with
  | .idle => s1.setFp f c.openUp
  | .calling => s1.setFp f c.openUp
  | .armed => s1.armedNozzles f
  | .starting => if c.saleNozzle = some n then s1 else s1.extraNozzle f
  | .fueling => if c.saleNozzle = some n then s1 else s1.extraNozzle f
  | .stopping => if c.saleNozzle = some n then s1 else s1.extraNozzle f
  | .closed => s1
  | .ended => s1
  | .locked => s1

/-- A hang of the sale nozzle in a run-out prevents a later top-up (R60). -/
def State.noteHang (s : State) (f : Fp) : State :=
  s.setFp f { s.fp f with sale := (s.fp f).sale.map (fun r => { r with hung := true }) }

/-- A hang, in the state of the fueling point (R44, R52, R56, R57, R60). -/
def State.hang (s : State) (f : Fp) (n : Nozzle) : State :=
  let s1 := s.takeNozzle f n false
  let c := s1.fp f
  match c.state with
  | .idle => s1.setFp f c.openUp
  | .calling => s1.setFp f c.openUp
  | .armed => s1.armedNozzles f
  | .starting => if c.saleNozzle = some n then s1.endSale f .nozzleHung else s1
  | .fueling => if c.saleNozzle = some n then s1.stopSale f .nozzleHung else s1
  | .stopping => if c.saleNozzle = some n then s1.noteHang f else s1
  | .closed => s1
  | .ended => if c.saleNozzle = some n then s1.setFp f c.openUp else s1
  | .locked => s1

/-! ### The panel, and the last-sale hold display -/

/-- The panel settles: its generation is proved, and an ARMED controller in PRICE_WAIT runs its start check
again (R86). -/
def State.panelReport (s : State) (f : Fp) : State :=
  let s1 := s.withPru { s.pru with panelVerified := s.pru.panelVerified.set f (some (s.fp f).appliedGen) }
  if (s1.fp f).state = .armed ∧ (s1.fp f).waiting = .priceWait then s1.armedNozzles f else s1

/-- The hold entry's values are first clean on the main display: HOLD_SHOWN joins the entry (R107). -/
def State.holdCheck (s : State) (f : Fp) : State :=
  if (s.fp f).hold = .pending ∧ s.panelSettled f.main = true then
    (s.setFp f { s.fp f with hold := .shown }).addHoldShown f
  else s

/-- A last-sale hold ends at its expiry: the no-sale values (R106, R183). -/
def State.endHold (s : State) (f : Fp) : State := (s.dropHold f).setNoSale f

end Sys2Proof.Machine
end

