-- ==== Sys2Proof/Machine/ReaderLink.lean ====
section
/-! DEFINITION. The reader link (6.2, 6.3): exchanges, outcomes, error counts, the fence, the recovery, the
reader domain's switch. The frames of good answers are in Machine/ReaderEvents.lean. -/

namespace Sys2Proof.Machine

/-! ### The reader domain (R120, R121, R175) -/

/-- The link at a switch-off of the domain: OFF, nothing in progress, the counts 0, the queue emptied (R120). -/
def Riu.switchedOff (r : Riu) : Riu :=
  { r.emptyQueue with
    link := .off
    exchangeTimer := none
    exchange := none
    slowPace := false
    waitingTimer := none
    sendErrors := 0
    recvErrors := 0
    goodRun := 0 }

/-- Both fueling points drop a reader-owned authorization held in ARMED. -/
def State.dropReaders (s : State) (cause : DropCause) : State := (s.dropReader .fp1 cause).dropReader .fp2 cause

/-- The domain is switched off, to OFF or CYCLING (R120). -/
def State.domainOff (s : State) (dest : Domain) : State :=
  let s1 := s.withRiu s.riu.switchedOff
  let s2 := s1.withSps
    { s1.sps with domain := dest, cycleTimer := if dest = .cycling then some (sec 2) else none }
  s2.dropReaders .power

/-- The link at a switch-on: WAITING, first exchange after 100 ms, 10 s for a first answer (R121). -/
def Riu.switchedOn (r : Riu) : Riu :=
  { r with
    link := .waiting
    sendErrors := 0
    recvErrors := 0
    waitingTimer := some (sec 10)
    exchangeTimer := some (ms 100)
    slowPace := false }

/-- The domain is switched on (R121). -/
def State.domainOn (s : State) : State :=
  (s.withRiu s.riu.switchedOn).withSps { s.sps with domain := .on, cycleTimer := none }

/-! ### The fence (R118, R119) -/

/-- The auto power-cycle decision at an entry to FENCED (R119). -/
def State.autoCycle (s : State) : State :=
  if s.riu.policy.autoCycle && s.riu.holdoff.isNone then
    (s.withRiu { s.riu with holdoff := some (minutes 10) }).domainOff .cycling
  else s

/-- The link at the fence, its queue emptied (R118). -/
def Riu.fenced (r : Riu) : Riu :=
  Riu.emptyQueue { r with link := .fenced, exchangeTimer := none, slowPace := false, goodRun := 0 }

/-- The link moves to FENCED (R118). -/
def State.fence (s : State) : State :=
  (((s.withRiu s.riu.fenced).raise .readerFenced).dropReaders .fenced).autoCycle

/-! ### Counts and link states (R116, R117, R123) -/

/-- Whether a count is at or above a limit. -/
def Riu.countAt (r : Riu) (n : Nat) : Bool := decide (n ≤ r.sendErrors) || decide (n ≤ r.recvErrors)

/-- The test after a change of a count (R116, R117, R118): FENCED at 192, WARNING at 80, ACTIVE below. -/
def State.linkTest (s : State) : State :=
  match s.riu.link with
  | .active =>
    if s.riu.countAt 192 then s.fence
    else if s.riu.countAt 80 then (s.withRiu { s.riu with link := .warning }).raise .readerWarn
    else s
  | .warning =>
    if s.riu.countAt 192 then s.fence
    else if s.riu.countAt 80 then s
    else s.withRiu { s.riu with link := .active }
  | .recovering => if s.riu.countAt 192 then s.fence else s
  | _ => s

/-- The good run reaches 16 (R123). -/
def State.recovered (s : State) : State :=
  if s.riu.countAt 80 then
    ((s.withRiu { s.riu with link := .warning, goodRun := 0 }).raise .readerRecovered).raise .readerWarn
  else (s.withRiu { s.riu with link := .active, goodRun := 0 }).raise .readerRecovered

/-- The outcome of an exchange (R115). -/
inductive ExchangeOutcome where
  | good | noAnswer | receiveError
  deriving DecidableEq, Repr

/-- The counts after an outcome (R116). -/
def Riu.counted (r : Riu) (o : ExchangeOutcome) : Riu :=
  match o with
  | .good => { r with sendErrors := r.sendErrors - 1, recvErrors := r.recvErrors - 1 }
  | .noAnswer => { r with sendErrors := satAdd 255 r.sendErrors 4 }
  | .receiveError => { r with recvErrors := satAdd 255 r.recvErrors 2 }

/-- The good run after an outcome in RECOVERING (R123). -/
def Riu.ran (r : Riu) (o : ExchangeOutcome) : Riu :=
  match o with
  | .good => { r with goodRun := satAdd 16 r.goodRun 1 }
  | _ => { r with goodRun := 0 }

/-- A good answer in WAITING or ABSENT: the waiting timer stops and the link is ACTIVE at the 100 ms pace (R121). The
exchange timer restarts from ABSENT and runs on from WAITING: DESIGN CHOICE, unsafe (assumption 55). -/
def Riu.activated (r : Riu) : Riu :=
  { r with
    link := .active
    waitingTimer := none
    exchangeTimer := if r.slowPace then some (ms 100) else r.exchangeTimer
    slowPace := false }

/-- The exchange has its outcome: it is over, and a HOST_TEXT in stage SENT has seen one more answer (R134). -/
def Riu.exchangeOver (r : Riu) : Riu :=
  { r with exchange := none, answersSeen := if r.textStage = .sent then r.answersSeen + 1 else r.answersSeen }

/-- The link state rules take an outcome (R116, R121, R123). -/
def State.takeOutcome (s : State) (o : ExchangeOutcome) : State :=
  let r := s.riu.exchangeOver
  match r.link with
  | .active => (s.withRiu (r.counted o)).linkTest
  | .warning => (s.withRiu (r.counted o)).linkTest
  | .recovering =>
    let s1 := s.withRiu ((r.counted o).ran o)
    if s1.riu.goodRun = 16 then s1.recovered else s1.linkTest
  | .waiting => s.withRiu (if o = .good then r.activated else r)
  | .absent => s.withRiu (if o = .good then r.activated else r)
  | .off => s.withRiu r
  | .fenced => s.withRiu r

/-- The third answer seen without a matching TEXT_ACK: FAILED, and 4 more to SEC (R134). -/
def State.textTest (s : State) : State :=
  if s.riu.textStage = .sent ∧ 3 ≤ s.riu.answersSeen then
    (s.withRiu { s.riu.endText .failed with sendErrors := satAdd 255 s.riu.sendErrors 4 }).linkTest
  else s

/-- Whether an exchange is in flight with its frame sent: only then can an answer be taken (R114). -/
def Riu.awaiting (r : Riu) : Bool :=
  match r.exchange with
  | some x => x.sent
  | none => false

/-- An exchange ends with no good answer (R114, R116, R134). -/
def State.badOutcome (s : State) (o : ExchangeOutcome) : State :=
  if s.riu.awaiting then (s.takeOutcome o).textTest else s

/-! ### Exchanges (R113, R133) -/

/-- The period of the exchange timer (R113). -/
def Riu.period (r : Riu) : Nat := if r.slowPace then sec 1 else ms 100

/-- Whether the link sends the head of its queue (R113). -/
def LinkState.sendsQueue : LinkState → Bool
  | .active => true
  | .warning => true
  | _ => false

/-- An exchange begins with a frame. -/
def Riu.send (r : Riu) (f : ReaderFrame) : Riu := { r with exchange := some ⟨f, false⟩ }

/-- A HOST_TEXT sent as the head takes stage SENT with answers seen 0 (R133). -/
def Riu.noteText (r : Riu) (f : ReaderFrame) : Riu :=
  match f with
  | .hostText _ _ => { r with textStage := .sent, answersSeen := 0 }
  | _ => r

/-- An exchange begins: the head of the queue in ACTIVE and WARNING, POLL otherwise (R113). -/
def Riu.beginExchange (r : Riu) : Riu :=
  if r.link.sendsQueue then
    match r.queue with
    | .frame f :: rest => ({ r with queue := rest }.noteText f).send f
    | _ => r.send .poll
  else r.send .poll

/-- An expiry of the exchange timer: it runs on at its period, and begins an exchange unless one is in flight (R113). -/
def Riu.exchangeExpiry (r : Riu) : Riu :=
  match r.exchangeTimer with
  | none => r
  | some _ =>
    let r1 := { r with exchangeTimer := some r.period }
    if r.exchange.isSome then r1 else r1.beginExchange

end Sys2Proof.Machine
end

