-- ==== Sys2Proof/Machine/Site.lean ====
section
/-! DEFINITION. The site power sequencer (chapter 8): supplies, the stages of WAKING and SHUTTING, opening and
closing, the freeze and the dip, the schedule. Each stage is written after the stages it can pass on to. -/

namespace Sys2Proof.Machine

/-! ### Supplies -/

/-- The filtered levels and edge times are taken as the pulser supply is switched on (R2). -/
def Channels.sampled (c : Channels) (a b : Bool) (now : Clock) : Channels :=
  { c with levelA := a, levelB := b, lastEdgeA := now, lastEdgeB := now }

/-- One meter at the switch-on of the pulser supply (R2). -/
def State.sampleMeter (s : State) (m : Meter) : State :=
  s.setMeter m ((s.meter m).sampled (s.pins.lineA.get m) (s.pins.lineB.get m) s.miu.clock)

/-- Set the pulser supply; switching it on samples every input (R2). -/
def State.setPulser (s : State) (on : Bool) : State :=
  let s1 := s.withSps { s.sps with pulserSupply := on }
  if on && !s.sps.pulserSupply then Meter.all.foldl State.sampleMeter s1 else s1

/-- Closed cause DISPLAY of both fueling points follows their modules (R43). -/
def State.setDisplayCauses (s : State) : State := (s.setDisplayCause .fp1).setDisplayCause .fp2

/-- The display supply is switched off if it is on, with the effects of R108. -/
def State.setDisplayOff (s : State) : State :=
  if s.sps.displaySupply then s.displayOff.setDisplayCauses else s

/-- The stage settle time of setup. -/
def State.settleTime (s : State) : Timer := some (ms s.sus.image.settle)

/-- A stage begins and waits for its timer, or for an event. -/
def State.stage (s : State) (st : Stage) (t : Timer) : State := s.withSps { s.sps with stage := st, stageTimer := t }

/-! ### WAKING: W5 back to W1 -/

/-- W5 powers the reader (R172). -/
def State.enterW5 (s : State) : State :=
  let s1 := if s.sps.domain = .off then s.domainOn else s
  s1.stage .w5 s1.settleTime

/-- The creep watch counts start at 0 (R171). -/
def State.clearWatch (s : State) : State :=
  s.withMiu { s.miu with meters := s.miu.meters.map (fun c => { c with watchCount := 0 }) }

/-- W4 checks the meters for creep (R171). -/
def State.enterW4 (s : State) : State := ((s.setPulser true).clearWatch).stage .w4 (some (sec 2))

/-- A module test on each of the four modules, and the sequencer waits for the outcome of all four (R170, R174). -/
def State.testAll (s : State) : State :=
  let s1 := ModuleId.all.foldl State.startTest s
  s1.withSps { s1.sps with awaiting := .four true }

/-- W3 tests the displays (R170). -/
def State.enterW3 (s : State) : State :=
  if s.sps.cold || decide (s.dbc.bus = .stuck) then s.enterW4 else s.testAll.stage .w3 none

/-- W2 powers the displays (R170). -/
def State.enterW2 (s : State) : State :=
  if s.sps.cold || s.sps.displaySupply then s.enterW3
  else (s.withSps { s.sps with displaySupply := true }).stage .w2 s.settleTime

/-- W1 with its heating not begun takes the last ambient reading (R169). -/
def State.enterW1 (s : State) : State :=
  if s.sps.ambient < s.sus.image.ht then
    (s.withSps
      { s.sps with heater := true, heatTimer := some (minutes s.sus.image.heatLimit) }).stage .w1 none
  else s.enterW2

/-- The wake resumes at W1: the heater and heat timer as they stand, or W1 not yet begun (R169, R178). -/
def State.resumeW1 (s : State) : State :=
  if s.sps.heater || s.sps.heatTimer.isSome then s.stage .w1 none else s.enterW1

/-- FROZEN from WAKING with resume stage W1 (R177, R182). -/
def State.freezeWaking (s : State) : State :=
  s.withSps { s.sps with seq := .frozen, stage := .none, stageTimer := none, frozenFrom := .waking, resume := .w1 }

/-- NIGHT leaves for WAKING at W1; with PWARN asserted, for FROZEN instead (R165, R177). -/
def State.enterWaking (s : State) : State :=
  if s.sps.warning then s.freezeWaking.raise .powerFreeze else (s.withSps { s.sps with seq := .waking }).enterW1

/-! ### NIGHT, and SHUTTING: S5 back to S1 -/

/-- The entry to NIGHT (R165, R167, R168). -/
def State.enterNight (s : State) : State :=
  let s1 := (s.withSps { s.sps with seq := .night, stage := .none, stageTimer := none }).setPulser s.sus.image.nightWatch
  let s2 := s1.raise .siteState
  if s2.sps.wantedOpen then s2.enterWaking else s2

/-- S5 sets the pulser supply per night watch (R167). -/
def State.enterS5 (s : State) : State :=
  if s.sps.pulserSupply = s.sus.image.nightWatch then s.enterNight
  else (s.setPulser s.sus.image.nightWatch).stage .s5 s.settleTime

/-- The heater is switched off. -/
def State.heaterOff (s : State) : State := s.withSps { s.sps with heater := false }

/-- S4 switches the display supply and the heater off (R167). -/
def State.enterS4 (s : State) : State :=
  if s.sps.displaySupply || s.sps.heater then s.setDisplayOff.heaterOff.stage .s4 s.settleTime else s.enterS5

/-- S3 orders blanking and waits for blanking done (R108, R167). -/
def State.enterS3 (s : State) : State :=
  if s.sps.displaySupply then
    let s1 := s.orderBlanking
    if s1.blankingDone then s1.enterS4 else s1.stage .s3 none
  else s.enterS4

/-- S2 switches the reader domain off (R167, R175). -/
def State.enterS2 (s : State) : State :=
  if s.sps.domain = .off then s.enterS3 else (s.domainOff .off).stage .s2 s.settleTime

/-- A hold timer that runs ends as at its expiry (R183). -/
def State.endRunningHold (s : State) (f : Fp) : State :=
  if (s.sps.holdTimers.get f).isSome then s.endHold f else s

/-- The cold flag is cleared and COLD removed; the heat timer stops; a warm-up is abandoned (S1 of Table 8-4). -/
def State.endCold (s : State) : State :=
  ((s.withSps
    { s.sps with cold := false, heatTimer := none, warmUp := .none, warmTimer := none, awaiting := .four false }).removeClosed
      .fp1 .cold).removeClosed .fp2 .cold

/-- Whether SHUTTING opens a contactor (S1 of Table 8-4). -/
def State.opensContactor (s : State) : Bool := Pump.all.any (fun p => (s.pump p).state.shuts)

/-- S1: the fueling points closed, the pumps off, the holds ended, the cold opening over (R65, R74, R167, R183). -/
def State.enterShutting (s : State) : State :=
  let s1 := s.withSps { s.sps with seq := .shutting, stage := .s1, stageTimer := none, closeGrace := none }
  let s2 := (s1.addClosed .fp1 .site).addClosed .fp2 .site
  let s3 := (s2.shutPump .pumpL).shutPump .pumpH
  let s4 := ((s3.endRunningHold .fp1).endRunningHold .fp2).endCold
  if s2.opensContactor then s4.stage .s1 s4.settleTime else s4.enterS2

/-! ### CLOSING and OPEN -/

/-- A state that holds off SHUTTING: ARMED or in a sale (R166). -/
def FpState.busy (st : FpState) : Bool := decide (st = .armed) || st.inSale

/-- The shutting test (R166). -/
def State.shuttingTest (s : State) : State :=
  if s.sps.seq = .closing ∧ (s.fp .fp1).state.busy = false ∧ (s.fp .fp2).state.busy = false then s.enterShutting else s

/-- The close grace runs out: the timer stops and both fueling points are told (R65, R166), FP1 before FP2: DESIGN
CHOICE, unsafe (assumption 53). -/
def State.graceExpiry (s : State) : State :=
  ((s.withSps { s.sps with closeGrace := none }).graceOver .fp1).graceOver .fp2

/-- The entry to CLOSING (R65, R166), FP1 before FP2 (assumption 53), with the test of the gate (R70) after the drops
and before a close grace of 0 runs out: DESIGN CHOICE, unsafe (assumption 59). -/
def State.enterClosing (s : State) : State :=
  let s1 := (s.withSps
    { s.sps with seq := .closing, closeGrace := some (minutes s.sus.image.closeGrace) }).raise .siteState
  let s2 := (s1.dropArmed .fp1 .closing).dropArmed .fp2 .closing
  let s3 := s2.gate
  let s4 := if s.sus.image.closeGrace = 0 then s3.graceExpiry else s3
  s4.shuttingTest

/-- The hold timer of a fueling point with a hold entry starts at the first OPEN after a reset; a hold of 0
runs out at once (R173, R183). -/
def State.startHold (s : State) (f : Fp) : State :=
  if (s.sj.holdEntries.get f).isSome then
    if s.sus.image.hold = 0 then s.endHold f
    else s.withSps { s.sps with holdTimers := s.sps.holdTimers.set f (some (minutes s.sus.image.hold)) }
  else s

/-- Step 5 of R173. -/
def State.firstOpen (s : State) : State :=
  if s.sps.opened then s else ((s.withSps { s.sps with opened := true }).startHold .fp1).startHold .fp2

/-- Step 2 of R173 for one fueling point. -/
def State.openFp (s : State) (f : Fp) : State := (s.removeClosed f .site).setDisplayCause f

/-- The entry to OPEN (R173). -/
def State.enterOpen (s : State) : State :=
  let s1 := (s.withSps { s.sps with seq := .opened, stage := .none, stageTimer := none, closeGrace := none }).raise .siteState
  let s2 := (s1.openFp .fp1).openFp .fp2
  let s3 := s2.withSps { s2.sps with heater := s2.sps.heater && s2.sps.cold }
  let s4 := s3.gate.firstOpen
  if s4.sps.wantedOpen then s4 else s4.enterClosing

/-- The sequencer compares its state with the wanted site state (R165). -/
def State.compareWanted (s : State) : State :=
  match s.sps.seq, s.sps.wantedOpen with
  | .night, true => s.enterWaking
  | .waking, false => s.enterShutting
  | .opened, false => s.enterClosing
  | .closing, true => s.enterOpen
  | _, _ => s

/-- The wanted site state takes a value, and the sequencer responds (R163, R165). -/
def State.wantSite (s : State) (wanted : Bool) : State :=
  (s.withSps { s.sps with wantedOpen := wanted }).compareWanted

/-- The shutting test after a command that changed the state of a fueling point in CLOSING (R166). -/
def State.afterFp (s before : State) : State :=
  if (s.fp .fp1).state = (before.fp .fp1).state ∧ (s.fp .fp2).state = (before.fp .fp2).state then s
  else s.shuttingTest

/-- A command's effect with the shutting test that a change of a fueling point's state calls for (R166). -/
def State.takeFp (s : State) (f : State → State) : Host.Outcome State Fault Refusal :=
  s.take (fun x => (f x).afterFp x)

/-! ### The cold opening (R174) -/

/-- The warm-up ends: the cold flag cleared, COLD removed (R174). -/
def State.warmUpOver (s : State) : State :=
  ((s.withSps { s.sps with warmUp := .none, warmTimer := none, cold := false }).removeClosed .fp1 .cold).removeClosed
    .fp2 .cold

/-- The warm-up becomes TESTING; on a STUCK bus no test is started and it ends at once (R170, R174). -/
def State.warmUpTest (s : State) : State :=
  let s1 := s.withSps { s.sps with warmUp := .testing, warmTimer := none }
  if s.dbc.bus = .stuck then s1.warmUpOver else s1.testAll

/-- The warm-up begins (R174). -/
def State.warmUpBegin (s : State) : State :=
  s.withSps { s.sps with heater := false, displaySupply := true, warmUp := .powering, warmTimer := s.settleTime }

/-- The sequencer has the outcome of every test it waits for: W3 ends, or the warm-up does (R170, R174). -/
def State.testsReported (s : State) : State :=
  if ModuleId.all.any (fun m => s.sps.awaiting.get m) then s
  else if s.sps.stage = .w3 then s.enterW4
  else if s.sps.warmUp = .testing then s.warmUpOver
  else s

/-- The outcome of a module's test is reported to its fueling point and to the sequencer (R103). -/
def State.testOutcome (s : State) (m : ModuleId) : State :=
  let s1 := s.setDisplayCause m.fp
  let s2 := s1.withSps { s1.sps with awaiting := s1.sps.awaiting.set m false }
  if s1.sps.awaiting.get m then s2.testsReported else s2

/-! ### W1 and the heater (R169) -/

/-- A warm reading ends W1: the heater OFF, the heat timer stopped (R169). -/
def State.heatDone (s : State) : State := s.withSps { s.sps with heater := false, heatTimer := none }

/-- The heat limit: HEAT_TIMEOUT, the cold flag, COLD on both fueling points; the heater stays ON (R169). -/
def State.heatLimitReached (s : State) : State :=
  (((s.withSps { s.sps with heatTimer := none, cold := true }).raise .heatTimeout).addClosed .fp1 .cold).addClosed
    .fp2 .cold

/-- W1 has ended: W2 begins, or in FROZEN the wake will resume there (R169, R178). -/
def State.w1Over (s : State) : State :=
  if s.sps.seq = .frozen then s.withSps { s.sps with resume := .w2 } else s.enterW2

/-- Whether W1 is heating, in WAKING or behind a freeze (R169). -/
def Sps.heatingW1 (p : Sps) : Bool :=
  p.heater && p.heatTimer.isSome
    && ((decide (p.seq = .waking) && decide (p.stage = .w1)) || (decide (p.seq = .frozen) && decide (p.resume = .w1)))

/-! ### The freeze and the dip (R176 to R178) -/

/-- What a freeze interrupts (R176). -/
def FrozenFrom.ofSeq : SeqState → FrozenFrom
  | .opened => .opened
  | .closing => .closing
  | .waking => .waking
  | .shutting => .shutting
  | _ => .none

/-- Where a wake resumes (R176). -/
def resumeOf (p : Sps) : ResumeStage :=
  match p.seq with
  | .waking => if p.stage = .w1 then .w1 else .w2
  | _ => .none

/-- The freeze (R66, R74, R176), FP1 before FP2: DESIGN CHOICE, unsafe (assumption 53). -/
def State.freeze (s : State) : State :=
  let s1 := s.withSps
    { s.sps with
      seq := .frozen
      stage := .none
      stageTimer := none
      frozenFrom := FrozenFrom.ofSeq s.sps.seq
      resume := resumeOf s.sps }
  ((((s1.freezeFp .fp1).freezeFp .fp2).freezePumps)).raise .powerFreeze

/-- The sequencer leaves FROZEN (R178). -/
def State.unfreeze (s : State) (from_ : FrozenFrom) (at_ : ResumeStage) : State :=
  match from_, at_ with
  | .opened, _ => s.enterOpen
  | .closing, _ => (((s.withSps { s.sps with seq := .closing }).raise .siteState).gate.shuttingTest).compareWanted
  | .waking, .w1 => ((s.withSps { s.sps with seq := .waking }).resumeW1).compareWanted
  | .waking, _ => ((s.withSps { s.sps with seq := .waking }).enterW2).compareWanted
  | .shutting, _ =>
    let s1 := if s.sps.domain = .off then s else s.domainOff .off
    s1.setDisplayOff.heaterOff.enterNight
  | .none, _ => s

/-- A dip (R109, R157, R178). -/
def State.dip (s : State) : State :=
  let s1 := (s.markAll).clearCandidates
  (s1.withSps { s1.sps with frozenFrom := .none, resume := .none }).unfreeze s.sps.frozenFrom s.sps.resume

/-! ### The schedule (R162, R163) -/

/-- The state an entry gives at a second of the day; true for open (R162). -/
def DayEntry.openAt (e : DayEntry) (seconds : Nat) : Bool :=
  match e with
  | .openAllDay => true
  | .closedAllDay => false
  | .window o c => decide (o ≤ seconds) && decide (seconds < c)

/-- The scheduled state at a time (R162). -/
def Schedule.openAt (x : Schedule) (t : Stamp) : Bool := (x.days.get t.day).openAt t.seconds

/-- One step of the time-of-day counter (R160). -/
def Stamp.next (t : Stamp) : Stamp :=
  if t.seconds < 86399 then { t with seconds := t.seconds + 1 }
  else { t with seconds := 0, day := if t.day < 65535 then t.day + 1 else 0 }

/-- A scheduled transition, if the step made one (R163). -/
def State.scheduledStep (s : State) (before : Stamp) : State :=
  let x := s.sps.schedule
  if x.auto && s.sps.time.valid && (x.openAt before != x.openAt s.sps.time) then s.wantSite (x.openAt s.sps.time) else s

end Sys2Proof.Machine
end

