-- ==== Sys2Proof/Machine/Meters.lean ====
section
/-! DEFINITION. The meter input unit (chapter 1): the glitch filter, pulses, channel loss, backlash, crediting,
creep and night flow, the audit sampler; and its commands. -/

namespace Sys2Proof.Machine

/-! ### The audit sampler (R14 to R19) -/

/-- One step of the shift register: stage n is bit n − 1, the feedback of stages 16, 15, 13 and 4 enters
stage 1 (R14). -/
def lfsrStep (r : BitVec 16) : BitVec 16 :=
  (r <<< 1) ||| (BitVec.ofBool (r.getLsbD 15 ^^ r.getLsbD 14 ^^ r.getLsbD 12 ^^ r.getLsbD 3)).zeroExtend 16

/-- A pulse is selected when stages 1, 2 and 3 are all ones after the step (R14). -/
def lfsrSelects (r : BitVec 16) : Bool := r.getLsbD 0 && r.getLsbD 1 && r.getLsbD 2

/-- The cause of a sample: the first condition of Table 1-6 that holds. -/
def sampleCause (interval : Option Nat) (st : FpState) (phase : Option Phase) : SampleCause :=
  if interval.isNone then .first
  else if !st.inSale then .noSale
  else if st ≠ .fueling then .runOut
  else if phase = some .fast then .fast
  else .slow

/-- The sample of a pulse (Table 1-5). -/
def State.sampleOf (s : State) (m : Meter) (interval : Option Nat) (phase : Nat) : Sample :=
  let c := s.fp m.fp
  { meter := m
    time := s.sps.time
    interval := interval.getD 0
    phase := phase
    seq := if c.state.inSale then c.auth.map Auth.seq else none
    cause := sampleCause interval c.state (c.sale.bind Sale.phase) }

/-- A sample joins the ring at the slot after the newest one (R17). -/
def Miu.record (u : Miu) (x : Sample) : Miu :=
  let i : Fin 16 := u.newest + 1
  { u with newest := i, ring := u.ring.set i (some x), count := satAdd 16 u.count 1 }

/-- The samples of the ring, newest first. -/
def Miu.samples (u : Miu) : List Sample :=
  (List.range u.count).filterMap (fun k => u.ring.get (u.newest - Fin.ofNat 16 k))

/-- Eight or more samples of a meter whose newest eight are all FAST with intervals spread by at most 2 µs (R19). -/
def Miu.regular (u : Miu) (m : Meter) : Bool :=
  let xs := (u.samples.filter (fun x => decide (x.meter = m))).take 8
  decide (xs.length = 8) && xs.all (fun x => decide (x.cause = .fast))
    && xs.all (fun x => xs.all (fun y => decide (x.interval ≤ y.interval + 2)))

/-- A sample is recorded, the countdown reloaded, and the regularity check made (R15, R16, R19). -/
def State.recordSample (s : State) (m : Meter) (interval : Option Nat) (phase : Nat) : State :=
  let s1 := s.withMiu { s.miu.record (s.sampleOf m interval phase) with countdown := s.sus.image.sac }
  if s1.miu.regular m then s1.raiseFor .auditRegular m.fp else s1

/-- An eligible pulse: the register steps, and a selected pulse brings the countdown down (R14, R15). -/
def State.auditPulse (s : State) (m : Meter) (interval : Option Nat) (phase : Nat) : State :=
  if s.sus.image.auditEnable && s.sus.image.auditMeters.get m then
    let r := lfsrStep s.miu.lfsr
    let s1 := s.withMiu { s.miu with lfsr := r }
    if lfsrSelects r then
      if s.miu.countdown ≤ 1 then s1.recordSample m interval phase
      else s1.withMiu { s1.miu with countdown := s1.miu.countdown - 1 }
    else s1
  else s

/-! ### Crediting (R9 to R13) -/

/-- The current rate bin grows (R10). -/
def Channels.addRate (c : Channels) (cf : Nat) : Channels := { c with bin0 := satAdd 4294967295 c.bin0 cf }

/-- Creep of a meter: CF joins the creep volume, and above 100 mL METER_CREEP is raised once (R12). -/
def State.creep (s : State) (m : Meter) (cf : Nat) : State :=
  let c := s.meter m
  let grown := c.creep + cf
  if 100000000 < grown ∧ c.creepRaised = false then
    (s.setMeter m { c with creep := grown, creepRaised := true }).raiseFor .meterCreep m.fp
  else s.setMeter m { c with creep := grown }

/-- The creep watch of W4 counts a credited pulse; the count reaching 11 raises METER_CREEP (R171). -/
def State.watchPulse (s : State) (m : Meter) : State :=
  if s.sps.stage = .w4 then
    let c := s.meter m
    let s1 := s.setMeter m { c with watchCount := c.watchCount + 1 }
    if c.watchCount + 1 = 11 then s1.raiseFor .meterCreep m.fp else s1
  else s

/-- A credited pulse of a meter (R9): totalizer and destination, rate bin, creep, night flow, the creep
watch, the audit sampler, and then the live sale. -/
def State.credit (s : State) (m : Meter) (interval : Option Nat) (phase : Nat) : State :=
  let cf := s.sus.image.cf.get m
  let toSale := s.inSale m.fp
  let s1 := s.updateTotals (Totals.credited m cf toSale)
  let s2 := s1.setMeter m ((s1.meter m).addRate cf)
  let s3 := if toSale = false ∧ s.sps.seq = .opened then s2.creep m cf else s2
  let s4 := if s.sps.seq = .night then s3.raiseFor .nightFlow m.fp else s3
  let s5 := (s4.watchPulse m).auditPulse m interval phase
  if toSale then s5.creditSale m.fp m.product cf else s5

/-! ### Meter faults (R5) -/

/-- A meter in OK becomes FAULTY: the cause, METER_FAULT, and the fueling point acts by R61 (R5). A sixth A rise whose
own reverse pulse made the fault REVERSE (R7) keeps that cause, and METER_FAULT is raised once: DESIGN CHOICE, unsafe
(assumption 50). -/
def State.faultMeter (s : State) (m : Meter) (cause : MeterCause) : State :=
  if (s.meter m).faulty then s
  else
    ((s.setMeter m { s.meter m with faulty := true, cause := cause }).raiseFor .meterFault m.fp).meterFaultFp m.fp

/-! ### Pulses (R3, R7, R8) -/

/-- The interval of a forward pulse, if the recent flag is set (R3). -/
def Channels.interval (c : Channels) (now : Clock) : Option Nat :=
  if c.recent then some (now - c.lastForward).toNat else none

/-- The B phase of a forward pulse (R3). -/
def Channels.phase (c : Channels) (now : Clock) : Nat :=
  match c.interval now, c.lastBRise with
  | some d, some b => clampNat 0 255 (256 * (b - c.lastForward).toNat / d)
  | _, _ => 0

/-- What a forward pulse leaves in its channel before the backlash rules (R3, R11). -/
def Channels.forward (c : Channels) (now : Clock) : Channels :=
  { c with lastForward := now, lastBRise := none, recent := true, recentTimer := some (sec 10) }

/-- A forward pulse (R3, R7, R8). -/
def State.forwardPulse (s : State) (m : Meter) : State :=
  let c := s.meter m
  let now := s.miu.clock
  let s1 := s.setMeter m (c.forward now)
  if 0 < c.backlash then s1.setMeter m { c.forward now with backlash := c.backlash - 1 }
  else s1.credit m (c.interval now) (c.phase now)

/-- A reverse pulse (R7, R8). -/
def State.reversePulse (s : State) (m : Meter) : State :=
  let c := s.meter m
  if s.inSale m.fp then
    if c.backlash < 20 then s.setMeter m { c with backlash := c.backlash + 1 } else s.faultMeter m .reverse
  else s.setMeter m { c with reverse := satAdd 65535 c.reverse 1 }

/-! ### Edges (R1, R3, R4) -/

/-- The filtered level of an input. -/
def Channels.level (c : Channels) : Channel → Bool
  | .a => c.levelA
  | .b => c.levelB

/-- The time of the last accepted edge of an input. -/
def Channels.lastEdge (c : Channels) : Channel → Clock
  | .a => c.lastEdgeA
  | .b => c.lastEdgeB

/-- An ignored change of level (R1). -/
def Channels.ignore (c : Channels) : Channels := { c with noise := satAdd 65535 c.noise 1 }

/-- The filtered level and edge time after an accepted edge (R1). -/
def Channels.accept (c : Channels) (i : Channel) (level : Bool) (now : Clock) : Channels :=
  match i with
  | .a => { c with levelA := level, lastEdgeA := now }
  | .b => { c with levelB := level, lastEdgeB := now }

/-- The run counts after an accepted edge, and a B rise kept (R3, R4). -/
def Channels.countEdge (c : Channels) (i : Channel) (rising : Bool) (now : Clock) : Channels :=
  match i with
  | .a => { c with aRun := if rising then c.aRun + 1 else c.aRun, bRun := 0 }
  | .b => { c with bRun := c.bRun + 1, aRun := 0, lastBRise := if rising then some now else c.lastBRise }

/-- The pulse an accepted rising edge of A decides (R3). -/
def State.decidePulse (s : State) (m : Meter) : State :=
  if (s.meter m).levelB then s.reversePulse m else s.forwardPulse m

/-- An accepted edge on a meter in OK: run counts, the pulse, channel loss (R3, R4). -/
def State.decodeEdge (s : State) (m : Meter) (i : Channel) (rising : Bool) : State :=
  let s1 := s.setMeter m ((s.meter m).countEdge i rising s.miu.clock)
  match i with
  | .a =>
    let s2 := if rising then s1.decidePulse m else s1
    if (s1.meter m).aRun = 6 then s2.faultMeter m .channelB else s2
  | .b => if (s1.meter m).bRun = 6 then s1.faultMeter m .channelA else s1

/-- Whether the glitch filter accepts a change (R1). -/
def Channels.accepts (c : Channels) (i : Channel) (level : Bool) (now : Clock) : Bool :=
  decide (20 ≤ (now - c.lastEdge i).toNat) && (level != c.level i)

/-- A change of level with the pulser supply on (R1). -/
def State.edge (s : State) (m : Meter) (i : Channel) (level : Bool) : State :=
  let c := s.meter m
  if c.accepts i level s.miu.clock then
    let s1 := s.setMeter m (c.accept i level s.miu.clock)
    if c.faulty then s1 else s1.decodeEdge m i level
  else s.setMeter m c.ignore

/-- The line of an input takes a level. -/
def Pins.withLine (p : Pins) (m : Meter) (i : Channel) (level : Bool) : Pins :=
  match i with
  | .a => { p with lineA := p.lineA.set m level }
  | .b => { p with lineB := p.lineB.set m level }

/-! ### Commands -/

/-- METER_INPUT_EDGE (R1 to R19): the clock advances, the line changes, and with the supply on the change is filtered.
R1 speaks of a change of level. A row whose level is the one the line already has is filtered as a change to that level:
DESIGN CHOICE, safe (assumption 60). -/
def State.inputEdge (s : State) (m : Meter) (i : Channel) (level : Bool) : State :=
  if s.sps.pulserSupply then s.edge m i level else s

def execMeterInputEdge (m : Meter) (i : Channel) (level : Bool) (elapsed : BitVec 32) (s : State) :
    Host.Outcome State Fault Refusal :=
  let s1 := s.advance elapsed.toNat
  let s2 := s1.withPins (s1.pins.withLine m i level)
  s2.takeFp (fun x => x.inputEdge m i level)

/-- The rate bins age by one place (R10). -/
def Channels.ageBins (c : Channels) : Channels := { c with bin0 := 0, bin1 := c.bin0, bin2 := c.bin1, bin3 := c.bin2 }

/-- RATE_BIN_TIMER_EXPIRY (R10). -/
def execRateBinTimerExpiry (s : State) : Host.Outcome State Fault Refusal :=
  s.take (fun x => x.withMiu { x.miu with meters := x.miu.meters.map Channels.ageBins, binTimer := some (ms 250) })

/-- The expiry of a meter's recent flag, if it is running (R11). -/
def Channels.recentOver (c : Channels) : Channels :=
  if c.recentTimer.isSome then { c with recent := false, recentTimer := none } else c

/-- RECENT_FLAG_EXPIRY (R11). -/
def execRecentFlagExpiry (m : Meter) (s : State) : Host.Outcome State Fault Refusal :=
  s.take (fun x => x.setMeter m (x.meter m).recentOver)

end Sys2Proof.Machine
end

