-- ==== Sys2Proof/Machine/FuelingEvents.lean ====
section
/-! DEFINITION. The commands of the fueling points that come from pins and timers (R38, R44, R49, R59, R60). -/

namespace Sys2Proof.Machine

/-! ### Valve intervals (R38) -/

/-- A new period with a duty: none at duty 0 (R38). -/
def periodOf (duty pv : Nat) : Option ValvePeriod := driveValve duty pv none

/-- An interval of a valve ends: the low interval follows the high one, and at the period boundary the
latest duty is loaded; at duty 1000 there is no low interval (R38). -/
def intervalOver (latest pv : Nat) (v : Option ValvePeriod) : Option ValvePeriod :=
  match v with
  | none => none
  | some x =>
    if x.high && decide (0 < lowTime x.duty pv) then some { x with high := false, left := some (lowTime x.duty pv) }
    else periodOf latest pv

/-- The valve of a product ends its interval. -/
def Fpc.valveOver (c : Fpc) (p : Product) (pv : Nat) : Fpc :=
  match p with
  | .low => { c with valveL := intervalOver (c.dutyOf .low) pv c.valveL }
  | .high => { c with valveH := intervalOver (c.dutyOf .high) pv c.valveH }

/-- VALVE_INTERVAL_EXPIRY (R38). -/
def execValveIntervalExpiry (f : Fp) (v : Product) (s : State) : Host.Outcome State Fault Refusal :=
  s.take (fun x => x.setFp f ((x.fp f).valveOver v x.sus.image.valvePeriod))

/-! ### Nozzles (R44) -/

/-- The switch of a nozzle takes a position; a position that differs from the one in the context is being
debounced, one that does not is not (R44). -/
def Pins.withSwitch (p : Pins) (f : Fp) (n : Nozzle) (up inContext : Bool) : Pins :=
  { p with
    switchUp := p.switchUp.set f ((p.switchUp.get f).set n up)
    debounce := p.debounce.set f ((p.debounce.get f).set n (if up = inContext then none else some (ms 50))) }

/-- NOZZLE_SWITCH_CHANGE (R44). A part held in reset takes only the position of the switch (R180). -/
def execNozzleSwitchChange (f : Fp) (n : Nozzle) (up : Bool) (s : State) : Host.Outcome State Fault Refusal :=
  .next (s.withPins (s.pins.withSwitch f n up ((s.fp f).nozzleUp.get n)))

/-- The switch of a nozzle has held a position for 50 ms. -/
def Pins.settledAt (p : Pins) (f : Fp) (n : Nozzle) (up : Bool) : Pins :=
  { p with
    switchUp := p.switchUp.set f ((p.switchUp.get f).set n up)
    debounce := p.debounce.set f ((p.debounce.get f).set n none) }

/-- A position that has held for 50 ms is taken, if it is new (R44). -/
def State.nozzleTaken (s : State) (f : Fp) (n : Nozzle) (up : Bool) : State :=
  let s1 := s.withPins (s.pins.settledAt f n up)
  if (s.fp f).nozzleUp.get n = up then s1 else if up then s1.lift f n else s1.hang f n

/-- NOZZLE_LIFT (R44, R52 to R55). -/
def execNozzleLift (f : Fp) (n : Nozzle) (s : State) : Host.Outcome State Fault Refusal :=
  s.takeFp (fun x => x.nozzleTaken f n true)

/-- NOZZLE_HANG (R44, R52, R56, R57, R60). -/
def execNozzleHang (f : Fp) (n : Nozzle) (s : State) : Host.Outcome State Fault Refusal :=
  s.takeFp (fun x => x.nozzleTaken f n false)

/-! ### Timers -/

/-- The expiry timer of an ARMED fueling point has run out (R49). -/
def State.authExpired (s : State) (f : Fp) : State :=
  if (s.fp f).state = .armed ∧ (s.fp f).expiryTimer.isSome = true then s.drop f .expired else s

/-- AUTH_EXPIRY (R49). -/
def execAuthExpiry (f : Fp) (s : State) : Host.Outcome State Fault Refusal := s.takeFp (fun x => x.authExpired f)

/-- The no-flow timer of a FUELING fueling point has run out (R59). -/
def State.noFlow (s : State) (f : Fp) : State :=
  if (s.fp f).state = .fueling ∧ (s.fp f).noFlowTimer.isSome = true then s.stopSale f .noFlow else s

/-- NO_FLOW_EXPIRY (R59). -/
def execNoFlowExpiry (f : Fp) (s : State) : Host.Outcome State Fault Refusal := s.takeFp (fun x => x.noFlow f)

/-- The run-out timer of a STOPPING fueling point has run out (R60). -/
def State.runOutExpired (s : State) (f : Fp) : State :=
  if (s.fp f).state = .stopping ∧ (s.fp f).runOutTimer.isSome = true then s.runOutOver f else s

/-- RUN_OUT_EXPIRY (R29, R60, R62). -/
def execRunOutExpiry (f : Fp) (s : State) : Host.Outcome State Fault Refusal := s.takeFp (fun x => x.runOutExpired f)

end Sys2Proof.Machine
end

