-- ==== Sys2Proof/Machine/PumpEvents.lean ====
section
/-! DEFINITION. The commands of the pumps: the inrush gap, feedback and the pump timers (R69 to R72). -/

namespace Sys2Proof.Machine

/-- INRUSH_GAP_EXPIRY: the gap has passed, and the gate tests again (R70). -/
def execInrushGapExpiry (s : State) : Host.Outcome State Fault Refusal :=
  s.take (fun x =>
    (x.withPsg { x.psg with sinceStart := max x.psg.sinceStart (ms x.sus.image.inrushGap) }).gate)

/-- A pump has failed: its record, and every fueling point that needs it (R72). Its place in the queue goes first, with
the gate's grant of the next head, then FP1's sale, then FP2's: DESIGN CHOICE, unsafe (assumption 61). -/
def State.failPump (s : State) (p : Pump) (cause : PumpCause) : State :=
  ((s.pumpFailed p cause).pumpFaultFp .fp1 p).pumpFaultFp .fp2 p

/-- The fueling points in STARTING test R55 again. -/
def State.retestFueling (s : State) : State := (s.tryFueling .fp1).tryFueling .fp2

/-- Feedback rises, in the state of the pump (R71). -/
def State.feedbackUp (s : State) (p : Pump) : State :=
  match (s.pump p).state with
  | .starting => (s.startPriming p).retestFueling
  | .off => s.setPump p { s.pump p with feedbackTimer := some (ms s.sus.image.feedback) }
  | .queued => s.setPump p { s.pump p with feedbackTimer := some (ms s.sus.image.feedback) }
  | _ => s

/-- PUMP_FEEDBACK_ASSERTED (R71). -/
def execPumpFeedbackAsserted (p : Pump) (s : State) : Host.Outcome State Fault Refusal :=
  (s.withPins { s.pins with feedback := s.pins.feedback.set p true }).takeFp (fun x => x.feedbackUp p)

/-- Feedback falls, in the state of the pump (R71, R72). -/
def State.feedbackDown (s : State) (p : Pump) : State :=
  match (s.pump p).state with
  | .priming => s.failPump p .feedbackLost
  | .running => s.failPump p .feedbackLost
  | .runOn => s.failPump p .feedbackLost
  | .off => s.setPump p { s.pump p with feedbackTimer := none }
  | .queued => s.setPump p { s.pump p with feedbackTimer := none }
  | _ => s

/-- PUMP_FEEDBACK_RELEASED (R71, R72). -/
def execPumpFeedbackReleased (p : Pump) (s : State) : Host.Outcome State Fault Refusal :=
  (s.withPins { s.pins with feedback := s.pins.feedback.set p false }).takeFp (fun x => x.feedbackDown p)

/-- The feedback timer has run out, in the state of the pump (R71, R72). -/
def State.feedbackExpired (s : State) (p : Pump) : State :=
  if (s.pump p).feedbackTimer.isNone then s
  else
    match (s.pump p).state with
    | .starting => s.failPump p .noFeedback
    | .off => s.failPump p .stuck
    | .queued => s.failPump p .stuck
    | _ => s

/-- PUMP_FEEDBACK_TIMER_EXPIRY (R71, R72). -/
def execPumpFeedbackTimerExpiry (p : Pump) (s : State) : Host.Outcome State Fault Refusal :=
  s.takeFp (fun x => x.feedbackExpired p)

/-- The prime timer has run out: the pump is RUNNING (R71). -/
def State.primed (s : State) (p : Pump) : State :=
  if (s.pump p).state = .priming ∧ (s.pump p).primeTimer.isSome = true then (s.reachRunning p).retestFueling else s

/-- PUMP_PRIME_EXPIRY (R71). -/
def execPumpPrimeExpiry (p : Pump) (s : State) : Host.Outcome State Fault Refusal := s.takeFp (fun x => x.primed p)

/-- The run-on timer has run out: the contactor opens (R69). -/
def State.runOnOver (s : State) (p : Pump) : State :=
  if (s.pump p).state = .runOn ∧ (s.pump p).runOnTimer.isSome = true then s.pumpOff p else s

/-- PUMP_RUN_ON_EXPIRY (R69). -/
def execPumpRunOnExpiry (p : Pump) (s : State) : Host.Outcome State Fault Refusal := s.take (fun x => x.runOnOver p)

end Sys2Proof.Machine
end

