-- ==== Sys2Proof/Machine/SiteEvents.lean ====
section
/-! DEFINITION. The commands of the site power sequencer: time, stages, heater, holds, the power monitor
(R160 to R183). -/

namespace Sys2Proof.Machine

/-- What a step of the counter drives: price activation, then the schedule (R81, R163; assumption 26). -/
def State.timeDriven (s : State) (before : Stamp) : State := s.activateIfDue.scheduledStep before

/-- TIME_OF_DAY_STEP (R160): the counter steps through a reset too; what it drives waits for its end. -/
def execTimeOfDayStep (s : State) : Host.Outcome State Fault Refusal :=
  (s.withSps { s.sps with time := s.sps.time.next, stepTimer := some (sec 1) }).takeFp
    (fun x => x.timeDriven s.sps.time)

/-- CLOSE_GRACE_EXPIRY (R65, R166). -/
def execCloseGraceExpiry (s : State) : Host.Outcome State Fault Refusal :=
  s.takeFp (fun x => if x.sps.closeGrace.isSome then x.graceExpiry else x)

/-- A settle time runs out: the stage, or the warm-up, moves on (R167, R170, R172, R174). -/
def State.settleOver (s : State) : State :=
  if s.sps.stageTimer.isSome then
    match s.sps.stage with
    | .w2 => s.enterW3
    | .w5 => s.enterOpen
    | .s1 => s.enterS2
    | .s2 => s.enterS3
    | .s4 => s.enterS5
    | .s5 => s.enterNight
    | _ => s
  else if s.sps.warmTimer.isSome ∧ s.sps.warmUp = .powering then s.warmUpTest
  else s

/-- STAGE_SETTLE_EXPIRY (R167). -/
def execStageSettleExpiry (s : State) : Host.Outcome State Fault Refusal := s.takeFp State.settleOver

/-- HEAT_TIMER_EXPIRY (R169). -/
def execHeatTimerExpiry (s : State) : Host.Outcome State Fault Refusal :=
  s.takeFp (fun x => if x.sps.heatingW1 then x.heatLimitReached.w1Over else x)

/-- A reading 2 °C or more above the threshold (R169, R174). -/
def State.isWarm (s : State) (celsius : Int) : Bool := decide (s.sus.image.ht + 2 ≤ celsius)

/-- A reading ends W1, or begins the warm-up of a cold opening (R169, R174). -/
def State.reading (s : State) (celsius : Int) : State :=
  let s1 := s.withSps { s.sps with ambient := celsius }
  if s1.isWarm celsius = false then s1
  else if s1.sps.heatingW1 then s1.heatDone.w1Over
  else if s1.sps.cold = true ∧ s1.sps.warmUp = .none ∧ s1.sps.seq = .opened then s1.warmUpBegin
  else s1

/-- AMBIENT_READING (R169, R174). -/
def execAmbientReading (celsius : Int) (s : State) : Host.Outcome State Fault Refusal :=
  s.takeFp (fun x => x.reading celsius)

/-- CREEP_WATCH_EXPIRY (R171). -/
def execCreepWatchExpiry (s : State) : Host.Outcome State Fault Refusal :=
  s.take (fun x => if x.sps.stage = .w4 ∧ x.sps.stageTimer.isSome = true then x.enterW5 else x)

/-- HOLD_TIMER_EXPIRY (R106, R183). -/
def execHoldTimerExpiry (f : Fp) (s : State) : Host.Outcome State Fault Refusal :=
  s.take (fun x => x.endRunningHold f)

/-- PWARN is asserted, in the state of the sequencer (R176, R177). -/
def State.powerWarned (s : State) : State :=
  let s1 := s.withSps { s.sps with warning := true }
  match s.sps.seq with
  | .opened => s1.freeze
  | .closing => s1.freeze
  | .waking => s1.freeze
  | .shutting => s1.freeze
  | .night => s1.raise .powerFreeze
  | .recovering => s1.withSps { s1.sps with warnedInRecovery := true }
  | .frozen => s1

/-- POWER_WARNING (R66, R74, R176, R177). -/
def execPowerWarning (s : State) : Host.Outcome State Fault Refusal :=
  (s.withPins { s.pins with pwarn := true }).take State.powerWarned

/-- PWARN is released: in FROZEN, a dip (R178). -/
def State.powerBack (s : State) : State :=
  let s1 := s.withSps { s.sps with warning := false }
  if s.sps.seq = .frozen then s1.dip else s1

/-- POWER_WARNING_RELEASE (R109, R157, R177, R178). -/
def execPowerWarningRelease (s : State) : Host.Outcome State Fault Refusal :=
  (s.withPins { s.pins with pwarn := false }).takeFp State.powerBack

/-- READER_CYCLE_EXPIRY (R121, R175). -/
def execReaderCycleExpiry (s : State) : Host.Outcome State Fault Refusal :=
  s.take (fun x => if x.sps.domain = .cycling ∧ x.sps.cycleTimer.isSome = true then x.domainOn else x)

end Sys2Proof.Machine
end

