-- ==== Sys2Proof/Machine/Reset.lean ====
section
/-! DEFINITION. The resets and the recovery stage W0 (8.7), with each block's state after a reset. -/

namespace Sys2Proof.Machine

/-! ### Resets (R179, R180) -/

/-- Every block takes its state after a reset; the retention store, the time of day and the setup store keep
their contents (R20, R41, R75, R76, R90, R112, R140, R159, R180, R185, R198, R199, R211). -/
def State.resetBlocks (s : State) (cause : ResetCause) : State where
  pending := s.pending
  resetHeld := s.resetHeld
  pins := s.pins
  clp := Clp.atReset s.clp.rate
  nu := Nu.atReset
  miu := Miu.atReset Image.defaults
  fpc := PerFp.both Fpc.atReset
  psg := Psg.atReset
  pru := Pru.atReset
  dbc := Dbc.atReset Image.defaults
  riu := Riu.atReset
  sj := s.sj.afterReset
  sps := Sps.atReset s.sps.time s.sps.stepTimer s.pins.pwarn cause
  sus := Sus.atReset s.sus.recordAfterReset

/-- A reset begins and is held until RESET_END (R180; assumption 11). -/
def State.beginReset (s : State) (cause : ResetCause) : State := (s.resetBlocks cause).withResetHeld (some cause)

/-- POWER_ON_RESET (R179); the time of day is lost when both its supplies were (R160). -/
def execPowerOnReset (clockLost : Bool) (s : State) : Host.Outcome State Fault Refusal :=
  .next
    ((if clockLost then s.withSps { s.sps with time := Stamp.lost, stepTimer := some (sec 1) } else s).beginReset
      .powerOn)

/-- RESET_PIN (R180). -/
def execResetPin (s : State) : Host.Outcome State Fault Refusal := .next (s.beginReset .pin)

/-- A pump whose feedback is asserted after the reset starts its feedback timer (R76). -/
def State.watchFeedback (s : State) (p : Pump) : State :=
  s.setPump p { s.pump p with feedbackTimer := s.watchTimer p }

/-- The reset ends: RECOVERING at W0, the rate taken from the straps, the switches being taken afresh
(R75, R76, R180, R199). -/
def State.endReset (s : State) (cause : ResetCause) (straps : BitVec 2) : State :=
  let s1 := (s.resetBlocks cause).withResetHeld none
  let s2 := (s1.withClp (Clp.atReset (rateOfStraps straps))).withPins s1.pins.afterReset
  (s2.watchFeedback .pumpL).watchFeedback .pumpH

/-- RESET_END (R180, R199). -/
def execResetEnd (straps : BitVec 2) (s : State) : Host.Outcome State Fault Refusal :=
  .next
    (match s.resetHeld with
     | some cause => s.endReset cause straps
     | none => s)

/-! ### The recovery stage (R182) -/

/-- The items of the stored record when its check fails (R187). -/
def StoredItems.lost : StoredItems := ⟨.defaults, .default, .default, .empty, 1⟩

/-- The audit sampler is loaded with the seed and SAC of the image in force (R15). -/
def State.loadAudit (s : State) : State :=
  s.withMiu { s.miu with lfsr := loadSeed s.sus.image.auditSeed, countdown := s.sus.image.sac }

/-- A module takes the address of the image in force (R112). -/
def State.takeAddress (s : State) (m : ModuleId) : State :=
  s.setModule m { s.module m with address := s.sus.image.address.get m }

/-- The items of the stored record, or the defaults, go to their owners (R90, R187). -/
def State.handOut (s : State) (x : StoredItems) : State :=
  let s1 := s.withSus { s.sus with image := x.image }
  let s2 := (s1.withSps { s1.sps with schedule := x.schedule }).withRiu { s1.riu with policy := x.policy }
  let s3 := s2.withPru { s2.pru with current := x.prices.fitted x.image, generation := x.generation }
  let s4 := ModuleId.all.foldl State.takeAddress s3.loadAudit
  (s4.adopt .fp1).adopt .fp2

/-- The check of the setup store (R187). -/
def State.storeCheck (s : State) : State :=
  if s.sus.stored.sound then (s.withSus { s.sus with settingsLost := false }).handOut s.sus.stored.items
  else
    ((((s.withSus { s.sus with settingsLost := true }).raise .settingsLost).handOut StoredItems.lost).addClosed .fp1
      .notSetUp).addClosed .fp2 .notSetUp

/-- The totalizer check, which locks both fueling points when it fails (R155). -/
def State.totalizerCheck (s : State) : State :=
  let s1 := s.totalsCheck
  if s1.sj.totalsCorrupt then (s1.lock .fp1 .ofTotals).lock .fp2 .ofTotals else s1

/-- The hold entry of a fueling point goes to its main display, or the no-sale values do (R106, R107). -/
def State.showHold (s : State) (f : Fp) : State :=
  match (s.sj.holdEntries.get f).bind (fun r => (s.sj.slot r.slot).bind Entry.sale) with
  | some x => (s.setFp f { s.fp f with hold := .pending }).setMain f x.money (x.volume / 10) (.number x.price)
  | none => s.setNoSale f

/-- The wanted site state at the end of W0 (R182). -/
def State.wantedAfterReset (s : State) : Bool :=
  s.sps.schedule.auto && s.sps.time.valid && s.sps.schedule.openAt s.sps.time

/-- Whether POWER_FREEZE is due at the end of W0: PWARN is asserted then (R182), or became asserted within RECOVERING,
released or not (R177). -/
def Sps.freezeNoticeDue (p : Sps) : Bool := p.warning || p.warnedInRecovery

/-- The notices at the end of W0 (R177, R182). POWER_FREEZE is raised once, however often PWARN became asserted within
RECOVERING: DEDUCED, unsafe (assumptions 17, 58). -/
def State.recoveryNotices (s : State) : State :=
  let s1 := s.raise .powerUp
  let s2 := if s1.sps.time.valid then s1 else s1.raise .timeInvalid
  let s3 := if s2.sps.freezeNoticeDue then s2.raise .powerFreeze else s2
  s3.withSps { s3.sps with warnedInRecovery := false }

/-- The sequencer leaves RECOVERING (R182). -/
def State.leaveRecovery (s : State) : State :=
  if s.sps.wantedOpen then if s.sps.warning then s.freezeWaking else s.enterWaking
  else s.enterNight

/-- Stage W0, its steps in order (R182). -/
def State.recover (s : State) : State :=
  let s1 := s.storeCheck.totalizerCheck.recoverJournal
  let s2 := (s1.showHold .fp1).showHold .fp2
  (s2.withSps { s2.sps with wantedOpen := s2.wantedAfterReset }).recoveryNotices.leaveRecovery

/-- RECOVERY_STAGE_END (R182). -/
def execRecoveryStageEnd (s : State) : Host.Outcome State Fault Refusal :=
  s.take (fun x => if x.sps.seq = .recovering then x.recover else x)

end Sys2Proof.Machine
end

