-- ==== Sys2Proof/Machine/ReaderEvents.lean ====
section
/-! DEFINITION. The commands of the reader link: its timers, the ends of exchanges, and the frames of good
answers through the filter (R113 to R136). -/

namespace Sys2Proof.Machine

/-! ### Timers and exchanges -/

/-- AUTO_CYCLE_HOLDOFF_EXPIRY (R119). -/
def execAutoCycleHoldoffExpiry (s : State) : Host.Outcome State Fault Refusal :=
  s.take (fun x => x.withRiu { x.riu with holdoff := none })

/-- The waiting timer has run out: ABSENT, at the 1 s pace (R121), a full second from now: DESIGN CHOICE, unsafe
(assumption 55). -/
def Riu.waitingOver (r : Riu) : Riu :=
  if r.link = .waiting ∧ r.waitingTimer.isSome = true then
    { r with link := .absent, waitingTimer := none, exchangeTimer := some (sec 1), slowPace := true }
  else r

/-- READER_WAITING_EXPIRY (R121). -/
def execReaderWaitingExpiry (s : State) : Host.Outcome State Fault Refusal :=
  s.take (fun x => x.withRiu x.riu.waitingOver)

/-- EXCHANGE_TIMER_EXPIRY (R113, R133). -/
def execExchangeTimerExpiry (s : State) : Host.Outcome State Fault Refusal :=
  s.take (fun x => x.withRiu x.riu.exchangeExpiry)

/-- READER_FRAME_SENT: the answer window opens (R114). -/
def execReaderFrameSent (s : State) : Host.Outcome State Fault Refusal :=
  s.take (fun x => x.withRiu { x.riu with exchange := x.riu.exchange.map (fun e => { e with sent := true }) })

/-- READER_ANSWER_WINDOW_CLOSE (R114, R116, R134). -/
def execReaderAnswerWindowClose (s : State) : Host.Outcome State Fault Refusal :=
  s.takeFp (fun x => x.badOutcome .noAnswer)

/-- READER_RECEIVE_ERROR (R114, R115, R116, R134). -/
def execReaderReceiveError (s : State) : Host.Outcome State Fault Refusal :=
  s.takeFp (fun x => x.badOutcome .receiveError)

/-! ### The filter (R126) -/

/-- A frame is discarded by the filter, and counted (R126). -/
def State.reject (s : State) : State := s.withRiu { s.riu with rejected := satAdd 65535 s.riu.rejected 1 }

/-- A good answer: the link rules take its outcome, then the filter takes its frame while the link is ACTIVE or
WARNING; in RECOVERING every frame but an IDLE is discarded uncounted, and an IDLE has no effect (R115, R121,
R123, R126). -/
def State.goodAnswer (s : State) (permits : Policy → Bool) (handle : State → State) : State :=
  if s.riu.awaiting then
    let s1 := s.takeOutcome .good
    let s2 :=
      if s.riu.link = .recovering ∨ s1.riu.link.sendsQueue = false then s1
      else if permits s1.riu.policy then handle s1
      else s1.reject
    s2.textTest
  else s

/-- A request that needs a reply: no free place discards it; otherwise a place is reserved, the request is
judged, and the reply takes the place (R126, R132). -/
def State.withReply (s : State) (judge : State → ReaderFrame × State) : State :=
  if s.riu.hasRoom then
    let x := judge (s.withRiu s.riu.reserve)
    x.2.withRiu (x.2.riu.fill x.1)
  else s.reject

/-- READER_IDLE (R115, R126). -/
def execReaderIdle (_fp : Byte) (s : State) : Host.Outcome State Fault Refusal :=
  s.takeFp (fun x => x.goodAnswer (fun _ => true) id)

/-! ### AUTH_REQ (R127, R128) -/

/-- What an AUTH_REQ asks for under the policy, with whether it is marked clamped; `none` for BAD_FIELD (R127). -/
def readerAsk (ceiling dflt : Nat) (token : Token) (kind : Byte) (value : BitVec 32) (level grades : Byte)
    (expiry : BitVec 16) : Option (AuthAsk × Bool) :=
  match readerLimit ceiling kind value, levelOfByte level with
  | some (v, c), some l =>
    if gradesOfByte grades = 0 then none
    else
      some
        ({ owner := .reader
           token := token
           limit := .money v
           level := l
           grades := gradesOfByte grades
           expiry := (clampExpiry dflt expiry).1 },
         c || (clampExpiry dflt expiry).2)
  | _, _ => none

/-- The AUTH_REPLY to a request that was presented (R128). -/
def authReplyOf (fp : Byte) (q : AuthAsk) (clamped : Bool) : Except Result EntryRef → ReaderFrame
  | .ok e => .authReply fp (if clamped then .okClamped else .ok) q.token (some (e.seq, q.limit.value, q.expiry))
  | .error r => .authReply fp r q.token none

/-- An AUTH_REQ is judged (R127, R128). BAD_FIELD carries the byte received:
DESIGN CHOICE, unsafe (assumption 63). -/
def State.judgeAuthReq (fp : Byte) (token : Token) (kind : Byte) (value : BitVec 32) (level grades : Byte)
    (expiry : BitVec 16) (s : State) : ReaderFrame × State :=
  match fpOfByte fp, readerAsk s.riu.policy.ceiling s.sus.image.defaultExpiry token kind value level grades expiry with
  | some f, some (q, clamped) =>
    if s.riu.policy.fps.get f then
      let x := s.authorize f q
      (authReplyOf fp q clamped x.1, x.2)
    else (.authReply fp .notPermitted token none, s)
  | _, _ => (.authReply fp .badField token none, s)

/-- AUTH_REQ (R126, R127, R128). -/
def execAuthReq (fp : Byte) (token : Token) (kind : Byte) (value : BitVec 32) (level grades : Byte)
    (expiry : BitVec 16) (s : State) : Host.Outcome State Fault Refusal :=
  s.takeFp (fun x =>
    x.goodAnswer Policy.authReq
      (fun y => y.withReply (State.judgeAuthReq fp token kind value level grades expiry)))

/-! ### AUTH_CANCEL (R51, R129) -/

/-- A reader cancel in the state of the fueling point (R51). -/
def State.readerCancelOwn (s : State) (f : Fp) : Result × State :=
  match (s.fp f).state with
  | .armed => (.ok, s.drop f .cancelled)
  | .starting => (.ok, s.endSale f .readerStop)
  | .fueling => (.ok, s.stopSale f .readerStop)
  | .stopping => (if (s.fp f).stopCause = some .preset then .ok else .already, s.replacePreset f .readerStop)
  | _ => (.already, s)

/-- A reader cancel judged by the fueling point (R51). -/
def State.readerCancel (s : State) (f : Fp) (token : Token) : Result × State :=
  match (s.fp f).auth with
  | none => (.already, s)
  | some a =>
    if a.owner = .control then (.notPermitted, s)
    else if a.token ≠ token then (.badField, s)
    else s.readerCancelOwn f

/-- An AUTH_CANCEL is judged (R129). BAD_FIELD carries the byte received:
DESIGN CHOICE, unsafe (assumption 63). -/
def State.judgeAuthCancel (fp : Byte) (token : Token) (s : State) : ReaderFrame × State :=
  match fpOfByte fp with
  | none => (.cancelReply fp .badField token, s)
  | some f =>
    let x := s.readerCancel f token
    (.cancelReply fp x.1 token, x.2)

/-- AUTH_CANCEL (R51, R126, R129). -/
def execAuthCancel (fp : Byte) (token : Token) (s : State) : Host.Outcome State Fault Refusal :=
  s.takeFp (fun x => x.goodAnswer Policy.authCancel (fun y => y.withReply (State.judgeAuthCancel fp token)))

/-! ### SALE_QUERY and SETTLE (R130, R131) -/

/-- The items of a SALE_REPORT (R130). -/
def Entry.report (e : Entry) : SaleReport where
  seq := e.seq
  state := e.state
  token := e.token
  limit := e.limit
  level := e.level
  sale := e.sale.map (fun x => (x.grade, x.price, x.volume, x.money))
  reason := e.ended.map Prod.snd
  flags := e.flags
  settledBy := e.settled.map Prod.fst

/-- A SALE_QUERY is judged: the newest reader-owned entry of the fueling point (R130). BAD_FIELD carries the byte received:
DESIGN CHOICE, unsafe (assumption 63). -/
def State.judgeSaleQuery (fp : Byte) (s : State) : ReaderFrame × State :=
  match fpOfByte fp with
  | none => (.saleReport fp .badField none, s)
  | some f =>
    match s.sj.newest (fun e => decide (e.fp = f) && decide (e.owner = .reader)) with
    | none => (.saleReport fp .noEntry none, s)
    | some (_, e) => (.saleReport fp .ok (some e.report), s)

/-- SALE_QUERY (R126, R130). -/
def execSaleQuery (fp : Byte) (s : State) : Host.Outcome State Fault Refusal :=
  s.takeFp (fun x => x.goodAnswer Policy.saleQuery (fun y => y.withReply (State.judgeSaleQuery fp)))

/-- A SETTLE is judged (R131, R148). BAD_FIELD carries the byte received:
DESIGN CHOICE, unsafe (assumption 63). -/
def State.judgeSettle (fp : Byte) (seq : BitVec 32) (token : Token) (s : State) : ReaderFrame × State :=
  match fpOfByte fp with
  | none => (.settleReply fp .badField seq.toNat, s)
  | some f =>
    let x := s.settleBy .reader (some f) seq.toNat token
    (.settleReply fp x.1 seq.toNat, x.2)

/-- SETTLE (R126, R131, R148). -/
def execSettle (fp : Byte) (seq : BitVec 32) (token : Token) (s : State) : Host.Outcome State Fault Refusal :=
  s.takeFp (fun x => x.goodAnswer Policy.settle (fun y => y.withReply (State.judgeSettle fp seq token)))

/-! ### PROMPT and TEXT_ACK (R134, R136) -/

/-- A prompt joins the pass-through queue, or is dropped for a full one (R136). -/
def State.takePrompt (fp : Byte) (text : List Byte) (s : State) : State :=
  if 2 < fp.toNat then s.reject
  else if s.riu.passThrough.length < 8 then
    (s.withRiu { s.riu with passThrough := s.riu.passThrough ++ [⟨fp, text⟩] }).raise .passthroughReady
  else if s.riu.overrun then s
  else (s.withRiu { s.riu with overrun := true }).raise .passthroughOverrun

/-- PROMPT (R126, R136). A text that is not of 1..32 bytes is no good answer but a receive error (R115). -/
def execPrompt (fp : Byte) (text : List Byte) (s : State) : Host.Outcome State Fault Refusal :=
  s.takeFp (fun x =>
    if 1 ≤ text.length ∧ text.length ≤ 32 then x.goodAnswer Policy.prompt (State.takePrompt fp text)
    else x.badOutcome .receiveError)

/-- A TEXT_ACK with the slot's number completes a HOST_TEXT in stage SENT (R134). -/
def State.takeTextAck (number : Byte) (s : State) : State :=
  if s.riu.textStage = .sent ∧ s.riu.textNumber = number.toNat then s.withRiu (s.riu.endText .sentOk) else s

/-- TEXT_ACK (R126, R134). -/
def execTextAck (_fp number : Byte) (s : State) : Host.Outcome State Fault Refusal :=
  s.takeFp (fun x => x.goodAnswer Policy.textAck (State.takeTextAck number))

end Sys2Proof.Machine
end

