-- ==== Sys2Proof/Machine/DisplayEvents.lean ====
section
/-! DEFINITION. The commands of the display bus: field updates, their ends, bus errors and recovery,
staleness (R93 to R105). -/

namespace Sys2Proof.Machine

/-- Blanking done ends stage S3 (R108, R167). -/
def State.blankingTest (s : State) : State :=
  if s.sps.stage = .s3 ∧ s.blankingDone = true then s.enterS4 else s

/-! ### Module failure (R99) -/

/-- The closed cause DISPLAY is recorded, whatever the state (R43). -/
def State.recordDisplay (s : State) (f : Fp) : State :=
  s.setFp f { s.fp f with closedCauses := (s.fp f).closedCauses.put .display true }

/-- A failed module reaches its fueling point (R61, R99). -/
def State.moduleFaultFp (s : State) (m : ModuleId) : State :=
  if m.isPanel then s.panelFaultFp m.fp else s.mainFaultFp m.fp

/-- The module itself becomes FAILED: its test stage none, its fields marked (R99). -/
def State.setFailed (s : State) (m : ModuleId) : State :=
  (s.setModule m { s.module m with state := .failed, stage := .none }).markModule m

/-- The failure of a module is noticed, and its fueling point told (R61, R99). -/
def State.reportFailed (s : State) (m : ModuleId) : State :=
  ((s.raiseFor .displayFault m.fp).recordDisplay m.fp).moduleFaultFp m

/-- Modules become FAILED together: all of them before any fueling point is told, then the fueling points in the
order of the list. DESIGN CHOICE, unsafe: FP1 is told before FP2 (R101; assumption 53). -/
def State.failTogether (s : State) (ms : List ModuleId) : State :=
  ms.foldl State.reportFailed (ms.foldl State.setFailed s)

/-- The tests of those modules that were under test in the state before end, their outcomes reported (R103). -/
def State.endTestsOf (s before : State) (ms : List ModuleId) : State :=
  ms.foldl (fun t m => if (before.module m).stage = .none then t else t.testOutcome m) s

/-- One module becomes FAILED; a test of it ends with that outcome (R99, R103). -/
def State.failModule (s : State) (m : ModuleId) : State := (s.failTogether [m]).endTestsOf s [m]

/-- The test stage of a module becomes none. -/
def State.leaveStage (s : State) (m : ModuleId) : State := s.setModule m { s.module m with stage := .none }

/-! ### The end of a field update (R96, R97, R103) -/

/-- The field update is over: the bus IDLE, the rotation pointer at the module (R93). -/
def State.updateOver (s : State) (m : ModuleId) : State :=
  s.withDbc { s.dbc with bus := .idle none, rotation := m }

/-- A verified field (R96). -/
def Field.verify (x : Field) (written : List Byte) (now : Clock) : Field :=
  { x with
    verified := some written
    dirtySince := if x.dirty then some now else none
    staleReported := false }

/-- Whether every field of a module has the test pattern verified (R103). -/
def State.patternShown (s : State) (m : ModuleId) : Bool :=
  FieldPos.all.all (fun p => decide ((s.field m p).verified = some (patternCodes m p)))

/-- A module test moves on: PATTERN to VALUES with a forced marking, VALUES to the successful end (R103). -/
def State.advanceTest (s : State) (m : ModuleId) : State :=
  match (s.module m).stage with
  | .none => s
  | .pattern =>
    if s.moduleClean m && s.patternShown m then
      (s.setModule m { s.module m with stage := .values }).markModule m
    else s
  | .values =>
    if s.moduleClean m then (s.setModule m { s.module m with stage := .none, state := .ok }).testOutcome m else s

/-- The verification of a field is reported to its owner (R96). -/
def State.reportVerified (s : State) (m : ModuleId) : State :=
  if m.isPanel then if s.panelSettled m then s.panelReport m.fp else s
  else (s.tryFueling m.fp).holdCheck m.fp

/-- A CHECK succeeds (R96). -/
def State.checkSucceeded (s : State) (u : Update) : State :=
  let s1 := s.setField u.module u.field ((s.field u.module u.field).verify u.written s.miu.clock)
  ((s1.updateOver u.module).reportVerified u.module).advanceTest u.module

/-- A try fails: the second try at once, or the module FAILED (R97). -/
def State.tryFailed (s : State) (u : Update) : State :=
  if u.try2 then (s.updateOver u.module).failModule u.module
  else (s.markField u.module u.field).beginWrite u.module u.field true

/-! ### Commands -/

/-- The field update to make next: an interrupted one again, or the next in rotation (R93, R101). -/
def Dbc.due (d : Dbc) : Option (ModuleId × FieldPos) :=
  match d.bus with
  | .idle (some t) => some t
  | .idle none => d.nextTurn
  | _ => none

/-- FIELD_UPDATE_START (R93, R94). -/
def execFieldUpdateStart (s : State) : Host.Outcome State Fault Refusal :=
  s.take (fun x =>
    match x.sps.displaySupply, x.dbc.due with
    | true, some (m, p) => x.beginWrite m p false
    | _, _ => x)

/-- A WRITE ends (R94, R97). -/
def State.writeEnd (s : State) (acked : Bool) : State :=
  match s.dbc.bus with
  | .busy u =>
    match u.doing with
    | .write => if acked then s.withDbc { s.dbc with bus := .busy { u with doing := .check } } else s.tryFailed u
    | .check => s
  | _ => s

/-- DISPLAY_WRITE_END (R94, R97). -/
def execDisplayWriteEnd (acked : Bool) (s : State) : Host.Outcome State Fault Refusal :=
  s.takeFp (fun x => (x.writeEnd acked).blankingTest)

/-- Whether a CHECK's answer makes the try succeed (R95). -/
def checkGood (u : Update) (answer : Option (Byte × Byte)) : Bool :=
  decide (answer = some (checkByte u.field u.written, 0x00#8))

/-- A CHECK ends (R95, R96, R97). -/
def State.checkEnd (s : State) (answer : Option (Byte × Byte)) : State :=
  match s.dbc.bus with
  | .busy u =>
    match u.doing with
    | .write => s
    | .check => if checkGood u answer then s.checkSucceeded u else s.tryFailed u
  | _ => s

/-- DISPLAY_CHECK_END (R95, R96, R97). -/
def execDisplayCheckEnd (answer : Option (Byte × Byte)) (s : State) : Host.Outcome State Fault Refusal :=
  s.takeFp (fun x => (x.checkEnd answer).blankingTest)

/-- The data line is found low where it should be released (R100). -/
def State.busError (s : State) : State :=
  match s.dbc.bus with
  | .busy u =>
    (s.withDbc { s.dbc with bus := .recovering false (some (u.module, u.field)) }).markField u.module u.field
  | .idle _ =>
    match s.sps.displaySupply, s.dbc.due with
    | true, some t => s.withDbc { s.dbc with bus := .recovering false (some t) }
    | _, _ => s
  | _ => s

/-- BUS_ERROR (R100). -/
def execBusError (s : State) : Host.Outcome State Fault Refusal := s.take State.busError

/-- The bus becomes STUCK: every module FAILED, each fueling point told of both of its modules, and only then the
tests that were in progress ended (R101). DESIGN CHOICE, unsafe: modules 1 to 4 in turn, so FP1 is told before FP2
(assumption 53). -/
def State.busStuck (s : State) : State :=
  ((s.withDbc { s.dbc with bus := .stuck }).failTogether ModuleId.all).endTestsOf s ModuleId.all

/-- The modules that are not FAILED. -/
def State.workingModules (s : State) : List ModuleId :=
  ModuleId.all.filter (fun m => decide ((s.module m).state ≠ .failed))

/-- A failed recovery attempt: back to STUCK, every test ended; only the modules that were not FAILED take the
effects of R99 (R101, R102; assumption 22). -/
def State.attemptFailed (s : State) : State :=
  let s1 := ModuleId.all.foldl State.leaveStage (s.withDbc { s.dbc with bus := .stuck, heldTests := .four false })
  (s1.failTogether s.workingModules).endTestsOf s ModuleId.all

/-- A recovery ends (R101, R102). -/
def State.recoveryEnd (s : State) (released : Bool) : State :=
  match s.dbc.bus, released with
  | .recovering false resume, true => s.withDbc { s.dbc with bus := .idle resume }
  | .recovering true _, true => (s.withDbc { s.dbc with bus := .idle none }).startHeldTests
  | .recovering false _, false => s.busStuck
  | .recovering true _, false => s.attemptFailed
  | _, _ => s

/-- BUS_RECOVERY_END (R101, R102). -/
def execBusRecoveryEnd (released : Bool) (s : State) : Host.Outcome State Fault Refusal :=
  s.takeFp (fun x => (x.recoveryEnd released).blankingTest)

/-- A field has waited more than 1000 ms: reported unless it was, or is not watched (R105). -/
def State.fieldStale (s : State) (f : Fp) (w : WatchedField) : State :=
  let x := s.field f.main w.pos
  if s.watchesStale f && x.dirtySince.isSome && !x.staleReported then s.reportStale f w else s

/-- FIELD_STALE (R57, R60, R105). -/
def execFieldStale (f : Fp) (w : WatchedField) (s : State) : Host.Outcome State Fault Refusal :=
  s.takeFp (fun x => x.fieldStale f w)

end Sys2Proof.Machine
end

