-- ==== Sys2Proof/Machine/Answers.lean ====
section
/-! DEFINITION. A request on the control link, from its complete frame to its reply (R202 to R204): what an
owning block answers, the outstanding request, the held answer. -/

namespace Sys2Proof.Machine

/-- What the owning block answers: its result and items, the state it leaves, how many store writes the reply
waits for, and whether the reset of RESTART follows the reply. -/
structure Answer where
  state       : State
  result      : Result
  body        : Body
  awaitWrites : Nat
  restarts    : Bool
  deriving DecidableEq, Repr

/-- An answer sent as the request is taken. -/
def State.reply (s : State) (r : Result) (b : Body) : Answer := ⟨s, r, b, 0, false⟩

/-- A result code alone. -/
def State.code (s : State) (r : Result) : Answer := s.reply r .none

/-- An answer whose reply waits for the store write the message caused, if it caused one (R186, R204). -/
def State.replyWritten (s before : State) (r : Result) (b : Body) : Answer :=
  ⟨s, r, b, if before.sus.writes < s.sus.writes then s.sus.writes else 0, false⟩

/-- The kind byte of a reply: the request's plus 80h (R202). -/
def replyKind (kind : Byte) : Byte := if 0x80 ≤ kind.toNat then 0xFF#8 else kind + 0x80#8

/-- The receiver returns to HUNTING, its buffer empty (R201). -/
def Clp.hunt (c : Clp) : Clp := { c with receiver := .hunting, buffer := [] }

/-- One more link error (R201). -/
def Clp.countError (c : Clp) : Clp := { c with linkErrors := satAdd 65535 c.linkErrors 1 }

/-- A frame that completes while a request is outstanding: the held answer, or discarded and counted (R203). -/
def Clp.hold (c : Clp) (r : Reply) : Clp :=
  match c.held with
  | none => { c with held := some r }
  | some _ => c.countError

/-- A request becomes outstanding with its reply, which is sent at once unless it waits (R203, R204). -/
def Clp.open_ (c : Clp) (o : Outstanding) : Clp :=
  { c with
    outstanding := some o
    sending := if o.awaitWrites = 0 ∧ c.sending = .nothing then .reply else c.sending }

/-- The outstanding request an answer makes. -/
def Answer.outstanding (a : Answer) (request : Option Request) (kind : Byte) : Outstanding :=
  ⟨request, ⟨replyKind kind, a.result, a.body⟩, a.awaitWrites, a.restarts⟩

/-- The answer is taken as that of the outstanding request. -/
def Answer.taken (a : Answer) (request : Option Request) (kind : Byte) : State :=
  a.state.withClp (a.state.clp.open_ (a.outstanding request kind))

/-- The kind of GET_STATUS, which RECOVERING answers (R202). -/
def getStatusKind : Byte := 0x01#8

/-- A well-formed message whose frame is complete: held while another is outstanding (R203), BUSY in RECOVERING
unless it is GET_STATUS (R202), and otherwise answered by the owning block (R202, R204). -/
def State.message (kind : Byte) (request : Request) (answer : State → Answer) (s : State) : State :=
  let s1 := s.withClp s.clp.hunt
  if s.clp.outstanding.isSome then s1.withClp (s1.clp.hold ⟨replyKind kind, .busy, .none⟩)
  else if s.sps.seq = .recovering ∧ kind ≠ getStatusKind then (s1.code .busy).taken (some request) kind
  else (answer s1).taken (some request) kind

end Sys2Proof.Machine
end

