-- ==== Sys2Proof/Machine/SiteMessages.lean ====
section
/-! DEFINITION. The site messages (Table 10-5): GET_STATUS to SET_NOTICE_ENABLES. -/

namespace Sys2Proof.Machine

/-! ### GET_STATUS (R205, Table 10-3) -/

/-- The number of pending kinds. -/
def Nu.pendingCount (n : Nu) : Nat := (NoticeKind.all.filter (fun k => (n.get k).pending)).length

/-- The stage timer of Table 8-1 as reported: that of a stage, or the settle time of a warm-up (R174, R184). -/
def Sps.settleTimer (p : Sps) : Timer := p.stageTimer.or p.warmTimer

/-- Part SITE (R184, R197, R205). -/
def State.siteStatus (s : State) : SiteStatus where
  seq := s.sps.seq
  stage := s.sps.stage
  frozenFrom := s.sps.frozenFrom
  resume := s.sps.resume
  wantedOpen := s.sps.wantedOpen
  time := s.sps.time
  auto := s.sps.schedule.auto
  warning := s.sps.warning
  ambient := s.sps.ambient
  heater := s.sps.heater
  cold := s.sps.cold
  warmUp := s.sps.warmUp
  pulserSupply := s.sps.pulserSupply
  displaySupply := s.sps.displaySupply
  domain := s.sps.domain
  closeGrace := s.sps.closeGrace
  heatTimer := s.sps.heatTimer
  stageTimer := s.sps.settleTimer
  cycleTimer := s.sps.cycleTimer
  holdTimers := s.sps.holdTimers
  lastReset := s.sps.lastReset
  interrupted := s.sps.interruptedCount
  freed := s.sps.freedCount
  setupMode := s.sus.edit.isSome
  settingsLost := s.sus.settingsLost
  metsw := s.pins.metsw
  rate := s.clp.rate
  linkErrors := s.clp.linkErrors
  attn := s.nu.attn
  kindsPending := s.nu.pendingCount

/-- The state of the bus (Table 5-5). -/
def Bus.state : Bus → BusState
  | .idle _ => .idle
  | .busy _ => .busy
  | .recovering _ _ => .recovering
  | .stuck => .stuck

/-- Part DISPLAY (R111). -/
def State.displayStatus (s : State) : DisplayStatus where
  bus := s.dbc.bus.state
  modules := s.dbc.modules.map (fun m =>
    (m.address, m.state, m.stage, m.fields.map (fun x => (x.dirty, x.verified.isSome))))

/-- The timer of a pump that runs. -/
def PumpRec.timer (r : PumpRec) : Timer := (r.feedbackTimer.or r.primeTimer).or r.runOnTimer

/-- One pump in part PUMPS (Table 10-3). -/
def State.pumpStatus (s : State) (p : Pump) : PumpStatus where
  state := (s.pump p).state
  demand := (s.pump p).demand
  cause := (s.pump p).cause
  feedback := s.pins.feedback.get p
  timer := (s.pump p).timer

/-- GET_STATUS (R205). -/
def State.answerGetStatus (part : Byte) (s : State) : Answer :=
  match part.toNat with
  | 0 => s.reply .ok (.site s.siteStatus)
  | 1 => s.reply .ok (.display s.displayStatus)
  | 2 => s.reply .ok (.pumps ⟨s.pumpStatus .pumpL, s.pumpStatus .pumpH⟩ s.psg.queue s.gapLeft)
  | 3 => s.reply .ok (.schedule s.sps.schedule)
  | _ => s.code .badField

/-- GET_STATUS with METSW at a level as the request is taken (R197; assumption 8). -/
def execGetStatus (part : WithSwitch Byte) (s : State) : Host.Outcome State Fault Refusal :=
  (s.withMetsw part.switchClosed).take
    (State.message 0x01#8 (.getStatus part.content) (State.answerGetStatus part.content))

/-! ### Notices (R208 to R210) -/

/-- The item of a kind in the GET_NOTICES reply (R208). -/
def Nu.item (n : Nu) (k : NoticeKind) : NoticeItem :=
  ⟨k.index.val + 1, (n.get k).count, (n.get k).fps, (n.get k).enable⟩

/-- The items of the pending kinds in priority order (R208). -/
def Nu.items (n : Nu) : List NoticeItem := (NoticeKind.all.filter (fun k => (n.get k).pending)).map n.item

/-- GET_NOTICES (R208). -/
def State.answerGetNotices (s : State) : Answer := s.reply .ok (.notices s.nu.items)

def execGetNotices (s : State) : Host.Outcome State Fault Refusal :=
  s.take (State.message 0x02#8 .getNotices State.answerGetNotices)

/-- The kinds a mask names are cleared; one that is not pending is left as it is (R209). -/
def Nu.clear (n : Nu) (mask : BitVec 24) : Nu :=
  NoticeKind.all.foldl
    (fun u k => if noticeIn mask k && (u.get k).pending then u.put k (u.get k).cleared else u) n

/-- Every meter's creep volume becomes 0 and its raised flag is cleared (R12, R209). -/
def Miu.clearCreep (u : Miu) : Miu :=
  { u with meters := u.meters.map (fun c => { c with creep := 0, creepRaised := false }) }

/-- Whether a mask clears METER_CREEP: it names the kind, and the kind is pending (R12, R209). -/
def Nu.clearsCreep (n : Nu) (mask : BitVec 24) : Bool := noticeIn mask .meterCreep && (n.get .meterCreep).pending

/-- CLEAR_NOTICES (R12, R209). -/
def State.answerClearNotices (mask : BitVec 24) (s : State) : Answer :=
  let s1 := s.withNu (s.nu.clear mask)
  (if s.nu.clearsCreep mask then s1.withMiu s1.miu.clearCreep else s1).code .ok

def execClearNotices (mask : BitVec 24) (s : State) : Host.Outcome State Fault Refusal :=
  s.take (State.message 0x03#8 (.clearNotices mask) (State.answerClearNotices mask))

/-- Every enable takes its bit of the mask (R210). -/
def Nu.enable (n : Nu) (mask : BitVec 24) : Nu :=
  NoticeKind.all.foldl (fun u k => u.put k { u.get k with enable := noticeIn mask k }) n

/-- SET_NOTICE_ENABLES (R210). -/
def State.answerSetNoticeEnables (mask : BitVec 24) (s : State) : Answer := (s.withNu (s.nu.enable mask)).code .ok

def execSetNoticeEnables (mask : BitVec 24) (s : State) : Host.Outcome State Fault Refusal :=
  s.take (State.message 0x09#8 (.setNoticeEnables mask) (State.answerSetNoticeEnables mask))

/-! ### Time and the site day (R161 to R164) -/

/-- The counter takes a time; in AUTO the wanted site state follows the schedule (R161, R163). -/
def State.setTime (s : State) (t : Stamp) : State :=
  let s1 := (s.withSps { s.sps with time := t, stepTimer := some (sec 1) }).activateIfDue
  if s1.sps.schedule.auto then s1.wantSite (s1.sps.schedule.openAt t) else s1

/-- SET_TIME (R81, R161, R163). -/
def State.answerSetTime (day : BitVec 16) (seconds : BitVec 24) (s : State) : Answer :=
  if 86400 ≤ seconds.toNat then s.code .badField
  else (s.setTime ⟨day.toNat, seconds.toNat, true⟩).replyWritten s .ok .none

def execSetTime (day : BitVec 16) (seconds : BitVec 24) (s : State) : Host.Outcome State Fault Refusal :=
  s.takeFp (State.message 0x04#8 (.setTime day seconds) (State.answerSetTime day seconds))

/-- SITE_OPEN (R164, Table 8-3). -/
def State.answerSiteOpen (s : State) : Answer :=
  match s.sps.seq with
  | .night => (s.wantSite true).code .ok
  | .waking => (s.wantSite true).code .ok
  | .opened => (s.wantSite true).code .ok
  | .closing => (s.wantSite true).code .ok
  | .shutting => s.code .busy
  | .frozen => s.code .busy
  | .recovering => s.code .busy

def execSiteOpen (s : State) : Host.Outcome State Fault Refusal :=
  s.takeFp (State.message 0x05#8 .siteOpen State.answerSiteOpen)

/-- SITE_CLOSE (R164, Table 8-3). -/
def State.answerSiteClose (s : State) : Answer :=
  match s.sps.seq with
  | .night => s.code .already
  | .waking => (s.wantSite false).code .ok
  | .opened => (s.wantSite false).code .ok
  | .closing => s.code .already
  | .shutting => s.code .already
  | .frozen => s.code .busy
  | .recovering => s.code .busy

def execSiteClose (s : State) : Host.Outcome State Fault Refusal :=
  s.takeFp (State.message 0x06#8 .siteClose State.answerSiteClose)

/-- Whether either fueling point is in a sale. -/
def State.selling (s : State) : Bool := s.inSale .fp1 || s.inSale .fp2

/-- RESTART (R181): the reset follows the reply, at REPLY_SENT. -/
def State.answerRestart (force : Byte) (s : State) : Answer :=
  if 1 < force.toNat then s.code .badField
  else if force.toNat = 0 ∧ s.selling = true then s.code .busy
  else ⟨s, .ok, .none, 0, true⟩

def execRestart (force : Byte) (s : State) : Host.Outcome State Fault Refusal :=
  s.take (State.message 0x07#8 (.restart force) (State.answerRestart force))

/-- SET_SCHEDULE (R162, R196). -/
def State.answerSetSchedule (mode : Byte) (days : PerDay RawDay) (s : State) : Answer :=
  match checkSchedule mode days with
  | .error n => s.reply .badField (.weekday n)
  | .ok x => ((s.withSps { s.sps with schedule := x }).askWriteUnlessLost).replyWritten s .ok .none

def execSetSchedule (mode : Byte) (days : PerDay RawDay) (s : State) : Host.Outcome State Fault Refusal :=
  s.take (State.message 0x08#8 (.setSchedule mode days) (State.answerSetSchedule mode days))

end Sys2Proof.Machine
end

