-- ==== Sys2Proof/Machine/FuelingMessages.lean ====
section
/-! DEFINITION. The fueling point messages (Table 10-6): AUTHORIZE to CLEAR_FAULT. -/

namespace Sys2Proof.Machine

/-! ### AUTHORIZE (R45, R46) -/

/-- What an AUTHORIZE asks for after its clamps, and whether a clamp was applied; `none` for BAD_FIELD (R45). -/
def controlAsk (dflt : Nat) (kind : Byte) (value : BitVec 32) (level grades : Byte) (expiry : BitVec 16)
    (token : Token) : Option (AuthAsk × Bool) :=
  match controlLimit kind value, levelOfByte level with
  | some (l, c), some v =>
    if gradesOfByte grades = 0 then none
    else
      some
        ({ owner := .control
           token := token
           limit := l
           level := v
           grades := gradesOfByte grades
           expiry := (clampExpiry dflt expiry).1 },
         c || (clampExpiry dflt expiry).2)
  | _, _ => none

/-- AUTHORIZE (R45, R46). -/
def State.answerAuthorize (fp kind : Byte) (value : BitVec 32) (level grades : Byte) (expiry : BitVec 16)
    (token : Token) (s : State) : Answer :=
  match fpOfByte fp, controlAsk s.sus.image.defaultExpiry kind value level grades expiry token with
  | some f, some (q, clamped) =>
    match s.authorize f q with
    | (.ok e, s1) => s1.reply (if clamped then .okClamped else .ok) (.granted e.seq e.slot q.limit q.expiry)
    | (.error r, s1) => s1.code r
  | _, _ => s.code .badField

def execAuthorize (fp kind : Byte) (value : BitVec 32) (level grades : Byte) (expiry : BitVec 16) (token : Token)
    (s : State) : Host.Outcome State Fault Refusal :=
  s.takeFp
    (State.message 0x10#8 (.authorize fp kind value level grades expiry token)
      (State.answerAuthorize fp kind value level grades expiry token))

/-! ### CANCEL_AUTH and STOP_FP (R50, R58) -/

/-- The cause of a control cancel in ARMED: CANCELLED by the owner, CONTROL_CANCEL on a reader-owned one (R50). -/
def cancelCause (a : Auth) : DropCause :=
  match a.owner with
  | .control => .cancelled
  | .reader => .controlCancel

/-- CANCEL_AUTH on a fueling point (R50). -/
def State.cancelAuth (s : State) (f : Fp) : Answer :=
  match (s.fp f).state with
  | .armed =>
    match (s.fp f).auth with
    | some a => (s.drop f (cancelCause a)).code .ok
    | none => s.code .already
  | .starting => (s.endSale f .controlStop).code .ok
  | .fueling => s.code .wrongState
  | .stopping => s.code .wrongState
  | .idle => s.code .already
  | .calling => s.code .already
  | .ended => s.code .already
  | .locked => s.code .already
  | .closed => s.code .already

/-- CANCEL_AUTH (R50). -/
def State.answerCancelAuth (fp : Byte) (s : State) : Answer :=
  match fpOfByte fp with
  | some f => s.cancelAuth f
  | none => s.code .badField

def execCancelAuth (fp : Byte) (s : State) : Host.Outcome State Fault Refusal :=
  s.takeFp (State.message 0x11#8 (.cancelAuth fp) (State.answerCancelAuth fp))

/-- STOP_FP on a fueling point (R58). -/
def State.stopFp (s : State) (f : Fp) : Answer :=
  match (s.fp f).state with
  | .starting => (s.endSale f .controlStop).code .ok
  | .fueling => (s.stopSale f .controlStop).code .ok
  | .stopping =>
    if (s.fp f).stopCause = some .preset then (s.replacePreset f .controlStop).code .ok else s.code .already
  | _ => s.code .wrongState

/-- STOP_FP (R58). -/
def State.answerStopFp (fp : Byte) (s : State) : Answer :=
  match fpOfByte fp with
  | some f => s.stopFp f
  | none => s.code .badField

def execStopFp (fp : Byte) (s : State) : Host.Outcome State Fault Refusal :=
  s.takeFp (State.message 0x12#8 (.stopFp fp) (State.answerStopFp fp))

/-! ### FP_STATUS (R10, R40, R67) -/

/-- The flow rate of a meter in mL/min (R10). -/
def Channels.flow (c : Channels) : Nat := (c.bin0 + c.bin1 + c.bin2 + c.bin3) * 60 / 1000000

/-- The meter items (Table 1-7). -/
def Channels.status (c : Channels) : MeterStatus := ⟨c.faulty, c.cause, c.backlash, c.flow, c.noise, c.reverse⟩

/-- The sale items (Table 2-6). -/
def Sale.status (r : Sale) : SaleStatus where
  volume := r.volume
  volumeCl := r.volumeCl
  money := r.money
  accL := r.accL / 1000000
  accH := r.accH / 1000000
  price := r.price
  limit := r.limit
  target := r.target
  closeKind := r.closeKind
  slowPoint := r.slowPoint
  closePoint := r.closePoint
  an := r.an
  phase := r.phase
  topUpDone := r.topUpDone
  dutyL := r.dutyL
  dutyH := r.dutyH
  share := r.shareItem
  flags := r.flags
  overShort := r.overShort

/-- The authorization items of FP_STATUS, with the expiry remaining (Table 3-8), in the microseconds left: DESIGN
CHOICE, unsafe (assumption 62). -/
def Auth.status (left : Timer) (a : Auth) : AuthStatus where
  owner := a.owner
  token := a.token
  limit := a.limit
  level := a.level
  grades := a.grades
  expiryLeft := left
  slot := a.slot
  seq := a.seq

/-- The items of FP_STATUS (R67, Table 3-8). -/
def State.fpStatus (s : State) (f : Fp) : FpStatus where
  state := (s.fp f).state
  closedCauses := (s.fp f).closedCauses
  lockCauses := (s.fp f).lockCauses
  lockAfterSale := (s.fp f).lockAfterSale
  waiting := (s.fp f).waiting
  nozzleUp := (s.fp f).nozzleUp
  saleNozzle := (s.fp f).saleNozzle
  auth := (s.fp f).auth.map (Auth.status (s.fp f).expiryTimer)
  stopCause := (s.fp f).stopCause
  appliedGen := (s.fp f).appliedGen
  lastEnd := (s.fp f).lastEnd
  low := (s.meter (f.meter .low)).status
  high := (s.meter (f.meter .high)).status
  sale := (s.fp f).sale.map Sale.status

/-- FP_STATUS (R67). -/
def State.answerFpStatus (fp : Byte) (s : State) : Answer :=
  match fpOfByte fp with
  | some f => s.reply .ok (.fpStatus (s.fpStatus f))
  | none => s.code .badField

def execFpStatus (fp : Byte) (s : State) : Host.Outcome State Fault Refusal :=
  s.take (State.message 0x13#8 (.fpStatus fp) (State.answerFpStatus fp))

/-! ### CLEAR_LOCK (R64) -/

/-- A FAILED module is tested again (R64, R103). -/
def State.retryModule (s : State) (m : ModuleId) : State :=
  if (s.module m).state = .failed then s.requestTest m else s

/-- The recovery CLEAR_LOCK asks for: an attempt on a STUCK bus, a retry of the fueling point's FAILED modules
otherwise (R64, R102). -/
def State.retryDisplays (s : State) (f : Fp) : State :=
  if s.dbc.bus = .stuck then s.startAttempt else (s.retryModule f.main).retryModule f.panel

/-- Whether one of a fueling point's modules is FAILED (R64). -/
def State.displayFailed (s : State) (f : Fp) : Bool :=
  decide ((s.module f.main).state = .failed) || decide ((s.module f.panel).state = .failed)

/-- A lock is cleared: TOTALS has the check word recomputed, and the fueling point lands with its applied
generation brought up (R64, R155). -/
def State.unlock (s : State) (f : Fp) : State :=
  let s1 := if (s.fp f).lockCauses.totals then s.recomputeCheck else s
  (s1.setFp f { s1.fp f with lockCauses := .empty }.land).bringUp f

/-- CLEAR_LOCK on a fueling point (R64). -/
def State.clearLock (s : State) (f : Fp) : Answer :=
  if (s.fp f).state ≠ .locked then s.code .already
  else if !s.metersOk f then s.reply .wrongState (.lockCause .ofMeter)
  else if s.displayFailed f then (s.retryDisplays f).reply .wrongState (.lockCause .ofDisplay)
  else (s.unlock f).reply .ok (.newState ((s.unlock f).fp f).state)

/-- CLEAR_LOCK (R64). -/
def State.answerClearLock (fp : Byte) (s : State) : Answer :=
  match fpOfByte fp with
  | some f => s.clearLock f
  | none => s.code .badField

def execClearLock (fp : Byte) (s : State) : Host.Outcome State Fault Refusal :=
  s.takeFp (State.message 0x14#8 (.clearLock fp) (State.answerClearLock fp))

/-! ### CLEAR_FAULT (R6, R73) -/

/-- A meter cleared of its fault (R6). -/
def Channels.clearFault (c : Channels) : Channels :=
  { c with faulty := false, cause := .none, aRun := 0, bRun := 0, backlash := 0 }

/-- CLEAR_FAULT on a meter (R6). -/
def State.answerClearFaultMeter (meter : Byte) (s : State) : Answer :=
  match Meter.ofNumber? meter.toNat with
  | none => s.code .badField
  | some m => if (s.meter m).faulty then (s.setMeter m (s.meter m).clearFault).code .ok else s.code .already

def execClearFaultMeter (meter : Byte) (s : State) : Host.Outcome State Fault Refusal :=
  s.take (State.message 0x15#8 (.clearFault meter) (State.answerClearFaultMeter meter))

/-- The target byte of a pump (Table 10-6). -/
def pumpTarget : Pump → Byte
  | .pumpL => 0x81#8
  | .pumpH => 0x82#8

/-- A FAILED pump goes to OFF, and with demand is queued as from OFF (R69, R73). -/
def State.clearPump (s : State) (p : Pump) : State :=
  let s1 := s.setPump p { s.pump p with state := .off, cause := .none }
  if 0 < (s.pump p).demand then s1.enqueue p else s1

/-- CLEAR_FAULT on a pump (R73). -/
def State.answerClearFaultPump (p : Pump) (s : State) : Answer :=
  if (s.pump p).state ≠ .failed then s.code .already
  else if s.pins.feedback.get p then s.code .wrongState
  else (s.clearPump p).code .ok

def execClearFaultPump (p : Pump) (s : State) : Host.Outcome State Fault Refusal :=
  s.take (State.message 0x15#8 (.clearFault (pumpTarget p)) (State.answerClearFaultPump p))

end Sys2Proof.Machine
end

