-- ==== Sys2Proof/Machine/StoreMessages.lean ====
section
/-! DEFINITION. The price messages (Table 10-7) and the journal messages (Table 10-8). -/

namespace Sys2Proof.Machine

/-! ### STAGE_PRICES (R78, R79) -/

/-- The price set an AT message carries, or the number of its first faulty item: 0 for the activation fields,
then the lowest faulty grade (R78). -/
def State.stagedSet (s : State) (activationOk : Bool) (es : PerGrade RawPrice) : Except Nat PriceSet :=
  if !activationOk then .error 0
  else
    match firstFaultyGrade s.sus.definedForPrices es with
    | some g => .error g.number
    | none => .ok (priceSetOf s.sus.definedForPrices es)

/-- OK_REPLACED when a pending set is discarded, OK otherwise (R79). -/
def State.stageResult (s : State) : Result := if s.pru.pendingSet.isSome then .okReplaced else .ok

/-- STAGE_PRICES with activation AT (R78, R79). -/
def State.answerStagePricesAt (seconds : BitVec 24) (es : PerGrade RawPrice) (s : State) : Answer :=
  match s.stagedSet (decide (seconds.toNat < 86400)) es with
  | .error n => s.reply .badField (.faultyGrade n)
  | .ok set =>
    (s.withPru { s.pru with pendingSet := some ⟨set, seconds.toNat⟩ }).reply s.stageResult
      (.generation (nextGeneration s.pru.generation))

/-- The activation code of AT (R78, R200). -/
def activationAt : Byte := 0x01#8

/-- The activation code of NOW (R78, R200). -/
def activationNow : Byte := 0x00#8

def execStagePricesAt (seconds : BitVec 24) (es : PerGrade RawPrice) (s : State) : Host.Outcome State Fault Refusal :=
  s.take (State.message 0x20#8 (.stagePrices activationAt seconds es) (State.answerStagePricesAt seconds es))

/-- STAGE_PRICES with activation NOW: any pending set is discarded and the new one activated before the reply
(R78, R79, R82). -/
def State.answerStagePricesNow (es : PerGrade RawPrice) (s : State) : Answer :=
  match s.stagedSet true es with
  | .error n => s.reply .badField (.faultyGrade n)
  | .ok set => (s.activate set).replyWritten s s.stageResult (.generation (s.activate set).pru.generation)

def execStagePricesNow (seconds : BitVec 24) (es : PerGrade RawPrice) (s : State) : Host.Outcome State Fault Refusal :=
  s.take (State.message 0x20#8 (.stagePrices activationNow seconds es) (State.answerStagePricesNow es))

/-! ### CANCEL_PRICES and PRICE_STATUS (R80, R89) -/

/-- CANCEL_PRICES (R80). -/
def State.answerCancelPrices (s : State) : Answer :=
  if s.pru.pendingSet.isSome then (s.withPru { s.pru with pendingSet := none }).code .ok else s.code .already

def execCancelPrices (s : State) : Host.Outcome State Fault Refusal :=
  s.take (State.message 0x21#8 .cancelPrices State.answerCancelPrices)

/-- A pending set as PRICE_STATUS reports it; it is always one of activation AT (R79, R89). -/
def PendingPrices.status (p : PendingPrices) (next : Nat) : PendingStatus := ⟨.timed, p.atSeconds, p.set, next⟩

/-- The items of PRICE_STATUS (R89). -/
def State.priceStatus (s : State) : PriceStatus where
  generation := s.pru.generation
  current := s.pru.current
  pendingSet := s.pru.pendingSet.map (fun p => p.status (nextGeneration s.pru.generation))
  timeValid := s.sps.time.valid
  appliedGen := ⟨(s.fp .fp1).appliedGen, (s.fp .fp2).appliedGen⟩
  adoptionDue := s.pru.adoptionDue
  panelVerified := s.pru.panelVerified

/-- PRICE_STATUS (R89). -/
def State.answerPriceStatus (s : State) : Answer := s.reply .ok (.prices s.priceStatus)

def execPriceStatus (s : State) : Host.Outcome State Fault Refusal :=
  s.take (State.message 0x22#8 .priceStatus State.answerPriceStatus)

/-! ### READ_SALE (R150) -/

/-- A slot and its entry, or NO_ENTRY (R150). -/
def State.replyEntry (s : State) (x : Option (Fin 32 × Entry)) : Answer :=
  match x with
  | some (i, e) => s.reply .ok (.entry i e)
  | none => s.code .noEntry

/-- READ_SALE (R150): selector 0 by sequence number, 1 the newest of a fueling point (Table 10-8). -/
def State.answerReadSale (selector : Byte) (value : BitVec 32) (s : State) : Answer :=
  match selector.toNat with
  | 0 => s.replyEntry (s.sj.find value.toNat)
  | 1 =>
    match Fp.ofNumber? value.toNat with
    | some f => s.replyEntry (s.sj.newest (fun e => decide (e.fp = f)))
    | none => s.code .badField
  | _ => s.code .badField

def execReadSale (selector : Byte) (value : BitVec 32) (s : State) : Host.Outcome State Fault Refusal :=
  s.take (State.message 0x30#8 (.readSale selector value) (State.answerReadSale selector value))

/-! ### Settlement (R148, R149) -/

/-- SETTLE_SALE (R148). -/
def State.answerSettleSale (seq : BitVec 32) (token : Token) (s : State) : Answer :=
  let x := s.settleBy .control none seq.toNat token
  x.2.code x.1

def execSettleSale (seq : BitVec 32) (token : Token) (s : State) : Host.Outcome State Fault Refusal :=
  s.take (State.message 0x31#8 (.settleSale seq token) (State.answerSettleSale seq token))

/-- TAKE_OVER (R149). -/
def State.answerTakeOver (seq : BitVec 32) (s : State) : Answer :=
  let x := s.takeOver seq.toNat
  x.2.code x.1

def execTakeOver (seq : BitVec 32) (s : State) : Host.Outcome State Fault Refusal :=
  s.take (State.message 0x32#8 (.takeOver seq) (State.answerTakeOver seq))

/-! ### JOURNAL_STATUS (R151) -/

/-- Whether a slot holds an UNSETTLED entry of a side. -/
def slotUnsettledOf (side : Side) (e : Option Entry) : Bool :=
  match e with
  | some x => decide (x.state = .unsettled) && decide (x.owner = side)
  | none => false

/-- The items of JOURNAL_STATUS (R151). Once the number is exhausted the next one is given as 4,294,967,295: DESIGN
CHOICE, unsafe (assumption 57). -/
def State.journalStatus (s : State) : JournalStatus where
  free := s.sj.countSlots slotFree
  reserved := s.sj.countSlots (slotIs .reserved)
  active := s.sj.countSlots (slotIs .active)
  unsettled := s.sj.countSlots (slotIs .unsettled)
  unsettledControl := s.sj.countSlots (slotUnsettledOf .control)
  unsettledReader := s.sj.countSlots (slotUnsettledOf .reader)
  settled := s.sj.countSlots (slotIs .settled)
  nextSeq := min max32 s.sj.nextSeq
  exhausted := s.sj.exhausted
  oldestUnsettled := (s.sj.oldest (fun e => decide (e.state = .unsettled))).map (fun x => x.2.seq)
  oldestSettled := (s.sj.oldest (fun e => decide (e.state = .settled))).map (fun x => x.2.seq)
  threshold := s.sus.image.lowThreshold
  lowArmed := s.sj.lowArmed

/-- JOURNAL_STATUS (R151). -/
def State.answerJournalStatus (s : State) : Answer := s.reply .ok (.journal s.journalStatus)

def execJournalStatus (s : State) : Host.Outcome State Fault Refusal :=
  s.take (State.message 0x33#8 .journalStatus State.answerJournalStatus)

/-! ### READ_TOTALS (R158) -/

/-- Whole mL of a volume held in nL. -/
def wholeMl (n : Nat) : Nat := n / 1000000

/-- READ_TOTALS: METERS 0, GRADES 1, OTHER 2 (R158, R200). -/
def State.answerReadTotals (part : Byte) (s : State) : Answer :=
  let t := s.sj.totals
  match part.toNat with
  | 0 => s.reply .ok (.totalsMeters (t.meterVolume.map wholeMl) (t.unassigned.map wholeMl))
  | 1 => s.reply .ok (.totalsGrades t.gradeVolume t.gradeMoney)
  | 2 =>
    s.reply .ok
      (.totalsOther t.saleCount t.calibrations t.lastCalibration s.sj.anticipation s.sj.totalsCorrupt)
  | _ => s.code .badField

def execReadTotals (part : Byte) (s : State) : Host.Outcome State Fault Refusal :=
  s.take (State.message 0x34#8 (.readTotals part) (State.answerReadTotals part))

end Sys2Proof.Machine
end

