-- ==== Sys2Proof/Machine/ReaderMessages.lean ====
section
/-! DEFINITION. The reader messages (Table 10-9): READER_STATUS to SET_READER_POLICY. -/

namespace Sys2Proof.Machine

/-- The items of READER_STATUS (R139). -/
def State.readerStatus (s : State) : ReaderStatus where
  link := s.riu.link
  sendErrors := s.riu.sendErrors
  recvErrors := s.riu.recvErrors
  goodRun := s.riu.goodRun
  domain := s.sps.domain
  holdoff := s.riu.holdoff
  queued := s.riu.queue.length
  lostPushes := s.riu.lostPushes
  rejected := s.riu.rejected
  completion := s.riu.completion
  textNumber := s.riu.textCounter
  textStage := s.riu.textStage
  passThrough := s.riu.passThrough.length
  overrun := s.riu.overrun
  policy := s.riu.policy

/-- READER_STATUS (R139). -/
def State.answerReaderStatus (s : State) : Answer := s.reply .ok (.reader s.readerStatus)

def execReaderStatus (s : State) : Host.Outcome State Fault Refusal :=
  s.take (State.message 0x40#8 .readerStatus State.answerReaderStatus)

/-- The link after a release: RECOVERING, the counts 0, at the 100 ms pace (R122). -/
def Riu.released (r : Riu) : Riu :=
  { r with
    link := .recovering
    sendErrors := 0
    recvErrors := 0
    goodRun := 0
    exchangeTimer := some (ms 100)
    slowPace := false }

/-- READER_RELEASE (R122). -/
def State.answerReaderRelease (s : State) : Answer :=
  if s.riu.link = .fenced then (s.withRiu s.riu.released).code .ok else s.code .wrongState

def execReaderRelease (s : State) : Host.Outcome State Fault Refusal :=
  s.take (State.message 0x41#8 .readerRelease State.answerReaderRelease)

/-- READER_POWER_CYCLE (R124, R175). -/
def State.answerReaderPowerCycle (s : State) : Answer :=
  match s.sps.domain with
  | .on => (s.domainOff .cycling).code .ok
  | .cycling => s.code .already
  | .off => s.code .wrongState

def execReaderPowerCycle (s : State) : Host.Outcome State Fault Refusal :=
  s.takeFp (State.message 0x42#8 .readerPowerCycle State.answerReaderPowerCycle)

/-- The text number after this one: 1 follows 255 (R133). -/
def nextText (n : Nat) : Nat := if 255 ≤ n then 1 else n + 1

/-- A HOST_TEXT joins the tail of the queue (R133). -/
def Riu.queueText (r : Riu) (text : List Byte) : Riu :=
  { r with
    textCounter := nextText r.textCounter
    queue := r.queue ++ [.frame (.hostText (nextText r.textCounter) text)]
    textStage := .queued
    textNumber := nextText r.textCounter
    completion := .pending }

/-- SEND_TO_READER (R133). -/
def State.answerSendToReader (text : List Byte) (s : State) : Answer :=
  if 32 < text.length then s.code .badField
  else if s.riu.link.sendsQueue = false then s.code .wrongState
  else if s.riu.textStage ≠ .none then s.code .busy
  else if s.riu.hasRoom = false then s.code .busy
  else (s.withRiu (s.riu.queueText text)).reply .ok (.textNumber (nextText s.riu.textCounter))

def execSendToReader (text : List Byte) (s : State) : Host.Outcome State Fault Refusal :=
  s.take (State.message 0x43#8 (.sendToReader text) (State.answerSendToReader text))

/-- The HOST_TEXT leaves the queue and the entries behind it close up (R135). -/
def Riu.abortText (r : Riu) : Riu :=
  { r with queue := r.queue.filter (fun e => !e.isText), completion := .aborted, textStage := .none }

/-- ABORT_TO_READER (R135). -/
def State.answerAbortToReader (s : State) : Answer :=
  match s.riu.textStage with
  | .queued => (s.withRiu s.riu.abortText).code .ok
  | .sent => s.code .busy
  | .none => s.code .already

def execAbortToReader (s : State) : Host.Outcome State Fault Refusal :=
  s.take (State.message 0x44#8 .abortToReader State.answerAbortToReader)

/-- READ_PASSTHROUGH (R137). -/
def State.answerReadPassthrough (s : State) : Answer :=
  match s.riu.passThrough with
  | [] => s.code .noEntry
  | p :: rest => (s.withRiu { s.riu with passThrough := rest }).reply .ok (.promptRead p rest.length)

def execReadPassthrough (s : State) : Host.Outcome State Fault Refusal :=
  s.take (State.message 0x45#8 .readPassthrough State.answerReadPassthrough)

/-- CLEAR_OVERRUN (R137). -/
def State.answerClearOverrun (s : State) : Answer :=
  if s.riu.overrun then (s.withRiu { s.riu with overrun := false }).code .ok else s.code .already

def execClearOverrun (s : State) : Host.Outcome State Fault Refusal :=
  s.take (State.message 0x46#8 .clearOverrun State.answerClearOverrun)

/-- SET_READER_POLICY (R138, R196). -/
def State.answerSetReaderPolicy (kinds fps : Byte) (ceiling : BitVec 32) (autoCycle : Byte) (s : State) : Answer :=
  match checkPolicy kinds fps ceiling autoCycle with
  | none => s.code .badField
  | some (p, clamped) =>
    ((s.withRiu { s.riu with policy := p }).askWriteUnlessLost).replyWritten s
      (if clamped then .okClamped else .ok) .none

def execSetReaderPolicy (kinds fps : Byte) (ceiling : BitVec 32) (autoCycle : Byte) (s : State) :
    Host.Outcome State Fault Refusal :=
  s.take
    (State.message 0x47#8 (.setReaderPolicy kinds fps ceiling autoCycle)
      (State.answerSetReaderPolicy kinds fps ceiling autoCycle))

end Sys2Proof.Machine
end

