-- ==== Sys2Proof/Machine/SetupMessages.lean ====
section
/-! DEFINITION. The setup and diagnostic messages (Table 10-10): ENTER_SETUP to DISPLAY_TEST. -/

namespace Sys2Proof.Machine

/-! ### The settings by item and index (Table 9-2): ranges and changes -/

/-- The range of each item but item 1, and whether a value outside it is clamped, or else refused (Table 9-2). -/
def itemRange (item : Nat) : Option (Int × Int × Bool) :=
  match item with
  | 2 => some (-1, 100, false)
  | 3 => some (0, 6, false)
  | 4 => some (200, 1000, true)
  | 5 => some (50, 500, true)
  | 6 => some (5, 50, true)
  | 7 => some (50, 2000, true)
  | 8 => some (0, 200, true)
  | 9 => some (500, 5000, true)
  | 10 => some (10, 120, true)
  | 11 => some (10, 600, true)
  | 12 => some (100, 2000, true)
  | 13 => some (1, 16, true)
  | 14 => some (5, 100, true)
  | 15 => some (5, 100, true)
  | 16 => some (0, 5000, true)
  | 17 => some (0, 60, true)
  | 18 => some (500, 5000, true)
  | 19 => some (200, 3000, true)
  | 20 => some (0x08, 0x77, false)
  | 21 => some (-30, 10, true)
  | 22 => some (5, 90, true)
  | 23 => some (50, 2000, true)
  | 24 => some (0, 60, true)
  | 25 => some (0, 60, true)
  | 26 => some (0, 16, true)
  | 27 => some (0, 1, false)
  | 28 => some (0, 1, false)
  | 29 => some (1, 65535, true)
  | 30 => some (1, 255, true)
  | 31 => some (0, 15, false)
  | _ => none

/-- The audit meter set of a value 0..15. -/
def meterSetOf (n : Nat) : PerMeter Bool := ⟨n.testBit 0, n.testBit 1, n.testBit 2, n.testBit 3⟩

/-- The run-out is lowered to the step of 100 below it (R190). -/
def stepItem (item : Nat) (v : Int) : Int := if item = 9 then v / 100 * 100 else v

/-- The value an item stores for a value sent; `none` for BAD_FIELD (R190). -/
def judgeItem (item : Nat) (v : Int) : Option Int :=
  match itemRange item with
  | none => none
  | some (lo, hi, clamps) =>
    if clamps then some (stepItem item (clampInt lo hi v))
    else if lo ≤ v ∧ v ≤ hi then some v
    else none

/-- A grade share is set. -/
def Image.setShare (i : Image) (index : Nat) (v : Int) : Image :=
  match Grade.ofNumber? index with
  | some g => { i with share := i.share.set g (if v < 0 then none else some v.toNat) }
  | none => i

/-- A nozzle is mapped. -/
def Image.setHose (i : Image) (index : Nat) (v : Int) : Image :=
  match hoseIndex index with
  | some (f, n) => { i with hose := i.hose.set f ((i.hose.get f).set n (Grade.ofNumber? v.toNat)) }
  | none => i

/-- A display address is set. -/
def Image.setAddress (i : Image) (index : Nat) (v : Int) : Image :=
  match ModuleId.ofNumber? index with
  | some m => { i with address := i.address.set m v.toNat }
  | none => i

/-- A judged value goes into an image at its item and index (R190). -/
def Image.putItem (i : Image) (item index : Nat) (v : Int) : Image :=
  match item with
  | 2 => i.setShare index v
  | 3 => i.setHose index v
  | 4 => { i with fastDuty := v.toNat }
  | 5 => { i with slowDuty := v.toNat }
  | 6 => { i with valvePeriod := v.toNat }
  | 7 => { i with slowdown := v.toNat }
  | 8 => { i with an0 := v.toNat }
  | 9 => { i with runOut := v.toNat }
  | 10 => { i with noFlow := v.toNat }
  | 11 => { i with defaultExpiry := v.toNat }
  | 12 => { i with window := v.toNat }
  | 13 => { i with gain := v.toNat }
  | 14 => { i with bt1 := v.toNat }
  | 15 => { i with bt2 := v.toNat }
  | 16 => { i with prime := v.toNat }
  | 17 => { i with runOn := v.toNat }
  | 18 => { i with inrushGap := v.toNat }
  | 19 => { i with feedback := v.toNat }
  | 20 => i.setAddress index v
  | 21 => { i with ht := v }
  | 22 => { i with heatLimit := v.toNat }
  | 23 => { i with settle := v.toNat }
  | 24 => { i with hold := v.toNat }
  | 25 => { i with closeGrace := v.toNat }
  | 26 => { i with lowThreshold := v.toNat }
  | 27 => { i with nightWatch := decide (v = 1) }
  | 28 => { i with auditEnable := decide (v = 1) }
  | 29 => { i with auditSeed := v.toNat }
  | 30 => { i with sac := v.toNat }
  | 31 => { i with auditMeters := meterSetOf v.toNat }
  | _ => i

/-- The setup store's edit image takes a value; the mode is SETUP exactly while there is one. -/
def State.withEdit (s : State) (e : Option Image) : State := s.withSus { s.sus with edit := e }

/-! ### ENTER_SETUP (R188) -/

/-- ENTER_SETUP accepted: the edit image, and closed cause SETUP on both fueling points (R188). -/
def State.enterSetup (s : State) : State :=
  ((s.withEdit (some s.sus.image)).addClosed .fp1 .setup).addClosed .fp2 .setup

/-- ENTER_SETUP (R188). -/
def State.answerEnterSetup (s : State) : Answer :=
  if s.sus.edit.isSome then s.code .already
  else if (s.fp .fp1).state.busy || (s.fp .fp2).state.busy then s.code .busy
  else s.enterSetup.code .ok

def execEnterSetup (s : State) : Host.Outcome State Fault Refusal :=
  s.takeFp (State.message 0x50#8 .enterSetup State.answerEnterSetup)

/-! ### LEAVE_SETUP (R193, R194) -/

/-- The first nozzle mapped to a grade whose share is UNUSED, by its index (check 1 of R193). -/
def Image.badHose (e : Image) : Option Nat :=
  [1, 2, 3, 4, 5, 6].find? (fun n =>
    match hoseIndex n with
    | some (f, z) =>
      match (e.hose.get f).get z with
      | some g => !e.defined g
      | none => false
    | none => false)

/-- The higher-numbered module of the first pair of equal addresses (check 2 of R193). -/
def Image.badAddress (e : Image) : Option Nat :=
  let a := e.address
  if a.mod2 = a.mod1 then some 2
  else if a.mod3 = a.mod1 ∨ a.mod3 = a.mod2 then some 3
  else if a.mod4 = a.mod1 ∨ a.mod4 = a.mod2 ∨ a.mod4 = a.mod3 then some 4
  else none

/-- The lowest defined grade that a price set does not price (check 4 of R193, R88). -/
def Image.unpricedGrade (e : Image) (set : PriceSet) : Option Grade :=
  Grade.all.find? (fun g => e.defined g && (set.get g).isNone)

/-- The item and index the first failing check names (R193). -/
def Image.fault (e : Image) (set : PriceSet) : Option (Nat × Nat) :=
  match e.badHose with
  | some n => some (3, n)
  | none =>
    match e.badAddress with
    | some n => some (20, n)
    | none =>
      if e.bt2 ≤ e.bt1 then some (14, 0)
      else (e.unpricedGrade set).map (fun g => (2, g.number))

/-- A module that takes a new address (R110). -/
def Module.readdressed (r : Module) (address : Nat) : Module :=
  { r with
    address := address
    state := .unknown
    fields := r.fields.map (fun x => { x with verified := none }) }

/-- A module whose address changed takes it, and is tested with the display supply on and the bus not STUCK (R110). -/
def State.readdress (s : State) (m : ModuleId) : State :=
  if (s.module m).address = s.sus.image.address.get m then s
  else
    let s1 := (s.setModule m ((s.module m).readdressed (s.sus.image.address.get m))).markModule m
    let s2 := s1.setDisplayCause m.fp
    if s2.sps.displaySupply = true ∧ s2.dbc.bus ≠ .stuck then s2.startTest m else s2

/-- The anticipation of both fueling points is replaced when AN0 changed (R153, R194). -/
def State.replaceAnticipation (s : State) (before : Image) : State :=
  if s.sus.image.an0 = before.an0 then s else s.withSj { s.sj with anticipation := .both s.sus.image.an0 }

/-- In NIGHT the pulser supply is set to match night watch (R168, R194). -/
def State.matchNightWatch (s : State) : State :=
  if s.sps.seq = .night then s.setPulser s.sus.image.nightWatch else s

/-- Step 4 of R194: the new values are handed to the blocks. -/
def State.handOver (s : State) (before : Image) : State :=
  ((ModuleId.all.foldl State.readdress s.loadAudit).replaceAnticipation before).matchNightWatch

/-- Step 5 of R194: SETUP and NOT_SET_UP are removed from a fueling point. -/
def State.reopen (s : State) (f : Fp) : State := (s.removeClosed f .setup).removeClosed f .notSetUp

/-- A setup whose edit image passed every check is completed (R194). -/
def State.completeSetup (s : State) (e : Image) : State :=
  let s1 := (s.withSus { s.sus with image := e, edit := none }).fitPrices
  let s2 := (s1.withSus { s1.sus with settingsLost := false }).askWrite
  ((s2.handOver s.sus.image).reopen .fp1).reopen .fp2

/-- LEAVE_SETUP (R193, R194). -/
def State.answerLeaveSetup (s : State) : Answer :=
  match s.sus.edit with
  | none => s.code .already
  | some e =>
    match e.fault s.pru.current with
    | some (item, index) => s.reply .badField (.itemIndex item index)
    | none => (s.completeSetup e).replyWritten s .ok .none

def execLeaveSetup (s : State) : Host.Outcome State Fault Refusal :=
  s.takeFp (fun x => (State.message 0x51#8 .leaveSetup State.answerLeaveSetup x).blankingTest)

/-! ### SET_ITEM and GET_ITEM (R190, R191) -/

/-- SET_ITEM (R190). -/
def State.answerSetItem (item index : Byte) (value : BitVec 32) (s : State) : Answer :=
  match s.sus.edit with
  | none => s.code .wrongState
  | some e =>
    match (if item.toNat = 1 then none else e.item item.toNat index.toNat), judgeItem item.toNat value.toInt with
    | some _, some v =>
      (s.withEdit (some (e.putItem item.toNat index.toNat v))).reply (if v = value.toInt then .ok else .okClamped)
        (.stored v)
    | _, _ => s.code .badField

def execSetItem (item index : Byte) (value : BitVec 32) (s : State) : Host.Outcome State Fault Refusal :=
  s.take (State.message 0x52#8 (.setItem item index value) (State.answerSetItem item index value))

/-- GET_ITEM (R191). -/
def State.answerGetItem (item index : Byte) (s : State) : Answer :=
  match s.sus.image.item item.toNat index.toNat with
  | some v => s.reply .ok (.item v (s.sus.edit.bind (fun e => e.item item.toNat index.toNat)))
  | none => s.code .badField

def execGetItem (item index : Byte) (s : State) : Host.Outcome State Fault Refusal :=
  s.take (State.message 0x53#8 (.getItem item index) (State.answerGetItem item index))

/-! ### SET_METER (R192) -/

/-- An accepted SET_METER: the edit image, the calibration counter and time, METROLOGY (R153, R192). -/
def State.calibrate (s : State) (e : Image) (m : Meter) (cf : Nat) : State :=
  ((s.withEdit (some { e with cf := e.cf.set m cf })).updateTotals (Totals.calibrated s.sps.time)).raise .metrology

/-- SET_METER, with METSW as the pin stands (R192). -/
def State.answerSetMeter (meter : Byte) (cf : BitVec 32) (s : State) : Answer :=
  match s.sus.edit with
  | none => s.code .wrongState
  | some e =>
    match Meter.ofNumber? meter.toNat with
    | none => s.code .badField
    | some m =>
      if cf.toNat < 250000 ∨ 20000000 < cf.toNat then s.code .badField
      else if !s.pins.metsw then s.code .notPermitted
      else if cf.toNat = e.cf.get m then s.code .already
      else (s.calibrate e m cf.toNat).code .ok

/-- SET_METER with the switch at a level when it is judged (R192; assumption 8). -/
def execSetMeter (meter : Byte) (cf : BitVec 32) (switchClosed : Bool) (s : State) : Host.Outcome State Fault Refusal :=
  (s.withMetsw switchClosed).take
    (State.message 0x54#8 (.setMeter meter cf) (State.answerSetMeter meter cf))

/-! ### READ_AUDIT and DISPLAY_TEST (R18, R104) -/

/-- READ_AUDIT (R18). -/
def State.answerReadAudit (skip : Byte) (s : State) : Answer :=
  if 15 < skip.toNat then s.code .badField
  else s.reply .ok (.samples s.miu.newest s.miu.count ((s.miu.samples.drop skip.toNat).take 6))

def execReadAudit (skip : Byte) (s : State) : Host.Outcome State Fault Refusal :=
  s.take (State.message 0x60#8 (.readAudit skip) (State.answerReadAudit skip))

/-- The modules a DISPLAY_TEST names: one, or all four for 0; `none` above 4 (R104). -/
def testedModules (module : Byte) : Option (List ModuleId) :=
  if module.toNat = 0 then some ModuleId.all else (ModuleId.ofNumber? module.toNat).map (fun m => [m])

/-- A main module whose fueling point is in a sale (R104). -/
def State.mainInSale (s : State) (m : ModuleId) : Bool := !m.isPanel && s.inSale m.fp

/-- A single named module already under test (R104). -/
def State.onlyUnderTest (s : State) (ms : List ModuleId) : Bool :=
  match ms with
  | [m] => decide ((s.module m).stage ≠ .none)
  | _ => false

/-- A test held for the end of a recovery attempt (R102). -/
def State.holdTest (s : State) (m : ModuleId) : State :=
  s.withDbc { s.dbc with heldTests := s.dbc.heldTests.set m true }

/-- The tests of an accepted DISPLAY_TEST: an attempt on a STUCK bus with the tests to follow, the tests
otherwise (R102, R104). -/
def State.testModules (s : State) (ms : List ModuleId) : State :=
  if s.dbc.bus = .stuck then ms.foldl State.holdTest s.startAttempt else ms.foldl State.requestTest s

/-- DISPLAY_TEST (R104). -/
def State.answerDisplayTest (module : Byte) (s : State) : Answer :=
  match testedModules module with
  | none => s.code .badField
  | some ms =>
    if s.sps.displaySupply = false then s.code .wrongState
    else if ms.any s.mainInSale then s.code .busy
    else if s.onlyUnderTest ms then s.code .already
    else (s.testModules ms).code .ok

def execDisplayTest (module : Byte) (s : State) : Host.Outcome State Fault Refusal :=
  s.take (State.message 0x61#8 (.displayTest module) (State.answerDisplayTest module))

end Sys2Proof.Machine
end

