-- ==== Sys2Proof/Machine/Layouts.lean ====
section
/-! DEFINITION. The byte layouts of 10.6 and the catalogue of 10.5: control requests both ways, the replies
whose layout the manual defines, reader frames both ways (R115, R200, R201). -/

namespace Sys2Proof.Machine

/-! ### Fields of a payload (R200) -/

/-- The number in `n` bytes from an offset, most significant byte first (R200). -/
def fieldNat (bs : List Byte) (off n : Nat) : Nat := natOfBytes ((bs.drop off).take n)

/-- The byte at an offset. -/
def fieldByte (bs : List Byte) (off : Nat) : Byte := BitVec.ofNat 8 (fieldNat bs off 1)

/-- A field of `w` bits in `n` bytes. -/
def fieldBits (w : Nat) (bs : List Byte) (off n : Nat) : BitVec w := BitVec.ofNat w (fieldNat bs off n)

/-- One byte of a number. -/
def byteOf (n : Nat) : List Byte := bytesBE 1 n

/-! ### The catalogue (Tables 10-5 to 10-10) -/

/-- The kind code of a request. -/
def requestKind : Request → Byte
  | .getStatus _ => 0x01
  | .getNotices => 0x02
  | .clearNotices _ => 0x03
  | .setTime _ _ => 0x04
  | .siteOpen => 0x05
  | .siteClose => 0x06
  | .restart _ => 0x07
  | .setSchedule _ _ => 0x08
  | .setNoticeEnables _ => 0x09
  | .authorize _ _ _ _ _ _ _ => 0x10
  | .cancelAuth _ => 0x11
  | .stopFp _ => 0x12
  | .fpStatus _ => 0x13
  | .clearLock _ => 0x14
  | .clearFault _ => 0x15
  | .stagePrices _ _ _ => 0x20
  | .cancelPrices => 0x21
  | .priceStatus => 0x22
  | .readSale _ _ => 0x30
  | .settleSale _ _ => 0x31
  | .takeOver _ => 0x32
  | .journalStatus => 0x33
  | .readTotals _ => 0x34
  | .readerStatus => 0x40
  | .readerRelease => 0x41
  | .readerPowerCycle => 0x42
  | .sendToReader _ => 0x43
  | .abortToReader => 0x44
  | .readPassthrough => 0x45
  | .clearOverrun => 0x46
  | .setReaderPolicy _ _ _ _ => 0x47
  | .enterSetup => 0x50
  | .leaveSetup => 0x51
  | .setItem _ _ _ => 0x52
  | .getItem _ _ => 0x53
  | .setMeter _ _ => 0x54
  | .readAudit _ => 0x60
  | .displayTest _ => 0x61

/-- The least and greatest length (kind byte and payload) a kind allows; `none` for a kind not in the tables. -/
def kindLengths (kind : Nat) : Option (Nat × Nat) :=
  match kind with
  | 0x01 => some (2, 2)
  | 0x02 => some (1, 1)
  | 0x03 => some (4, 4)
  | 0x04 => some (6, 6)
  | 0x05 => some (1, 1)
  | 0x06 => some (1, 1)
  | 0x07 => some (2, 2)
  | 0x08 => some (51, 51)
  | 0x09 => some (4, 4)
  | 0x10 => some (15, 15)
  | 0x11 => some (2, 2)
  | 0x12 => some (2, 2)
  | 0x13 => some (2, 2)
  | 0x14 => some (2, 2)
  | 0x15 => some (2, 2)
  | 0x20 => some (35, 35)
  | 0x21 => some (1, 1)
  | 0x22 => some (1, 1)
  | 0x30 => some (6, 6)
  | 0x31 => some (9, 9)
  | 0x32 => some (5, 5)
  | 0x33 => some (1, 1)
  | 0x34 => some (2, 2)
  | 0x40 => some (1, 1)
  | 0x41 => some (1, 1)
  | 0x42 => some (1, 1)
  | 0x43 => some (1, 121)
  | 0x44 => some (1, 1)
  | 0x45 => some (1, 1)
  | 0x46 => some (1, 1)
  | 0x47 => some (8, 8)
  | 0x50 => some (1, 1)
  | 0x51 => some (1, 1)
  | 0x52 => some (7, 7)
  | 0x53 => some (3, 3)
  | 0x54 => some (6, 6)
  | 0x60 => some (2, 2)
  | 0x61 => some (2, 2)
  | _ => none

/-! ### Requests as bytes -/

/-- One day entry of SET_SCHEDULE (Table 10-5). -/
def dayBytes (d : RawDay) : List Byte := byteOf d.kind.toNat ++ bytesBE 3 d.opens.toNat ++ bytesBE 3 d.closes.toNat

/-- One grade entry of STAGE_PRICES (Table 10-7). -/
def priceBytes (e : RawPrice) : List Byte :=
  byteOf e.priced.toNat ++ bytesBE 2 e.level1.toNat ++ bytesBE 2 e.level2.toNat

/-- The payload of a request: its fields in the order of its table, most significant byte first. -/
def requestPayload : Request → List Byte
  | .getStatus part => byteOf part.toNat
  | .getNotices => []
  | .clearNotices mask => bytesBE 3 mask.toNat
  | .setTime day seconds => bytesBE 2 day.toNat ++ bytesBE 3 seconds.toNat
  | .siteOpen => []
  | .siteClose => []
  | .restart force => byteOf force.toNat
  | .setSchedule mode days => byteOf mode.toNat ++ days.toList.flatMap dayBytes
  | .setNoticeEnables mask => bytesBE 3 mask.toNat
  | .authorize fp kind value level grades expiry token =>
    byteOf fp.toNat ++ byteOf kind.toNat ++ bytesBE 4 value.toNat ++ byteOf level.toNat ++ byteOf grades.toNat
      ++ bytesBE 2 expiry.toNat ++ bytesBE 4 token.toNat
  | .cancelAuth fp => byteOf fp.toNat
  | .stopFp fp => byteOf fp.toNat
  | .fpStatus fp => byteOf fp.toNat
  | .clearLock fp => byteOf fp.toNat
  | .clearFault target => byteOf target.toNat
  | .stagePrices activation seconds es =>
    byteOf activation.toNat ++ bytesBE 3 seconds.toNat ++ Grade.all.flatMap (fun g => priceBytes (es.get g))
  | .cancelPrices => []
  | .priceStatus => []
  | .readSale selector value => byteOf selector.toNat ++ bytesBE 4 value.toNat
  | .settleSale seq token => bytesBE 4 seq.toNat ++ bytesBE 4 token.toNat
  | .takeOver seq => bytesBE 4 seq.toNat
  | .journalStatus => []
  | .readTotals part => byteOf part.toNat
  | .readerStatus => []
  | .readerRelease => []
  | .readerPowerCycle => []
  | .sendToReader text => text
  | .abortToReader => []
  | .readPassthrough => []
  | .clearOverrun => []
  | .setReaderPolicy kinds fps ceiling autoCycle =>
    byteOf kinds.toNat ++ byteOf fps.toNat ++ bytesBE 4 ceiling.toNat ++ byteOf autoCycle.toNat
  | .enterSetup => []
  | .leaveSetup => []
  | .setItem item index value => byteOf item.toNat ++ byteOf index.toNat ++ bytesBE 4 value.toNat
  | .getItem item index => byteOf item.toNat ++ byteOf index.toNat
  | .setMeter meter cf => byteOf meter.toNat ++ bytesBE 4 cf.toNat
  | .readAudit skip => byteOf skip.toNat
  | .displayTest module => byteOf module.toNat

/-- The day entry at an offset. -/
def dayAt (bs : List Byte) (off : Nat) : RawDay :=
  ⟨fieldByte bs off, fieldBits 24 bs (off + 1) 3, fieldBits 24 bs (off + 4) 3⟩

/-- The grade entry at an offset. -/
def priceAt (bs : List Byte) (off : Nat) : RawPrice :=
  ⟨fieldByte bs off, fieldBits 16 bs (off + 1) 2, fieldBits 16 bs (off + 3) 2⟩

/-- The request a kind and a payload of an allowed length spell; `none` for a kind not in the tables. -/
def requestOf (kind : Nat) (p : List Byte) : Option Request :=
  match kind with
  | 0x01 => some (.getStatus (fieldByte p 0))
  | 0x02 => some .getNotices
  | 0x03 => some (.clearNotices (fieldBits 24 p 0 3))
  | 0x04 => some (.setTime (fieldBits 16 p 0 2) (fieldBits 24 p 2 3))
  | 0x05 => some .siteOpen
  | 0x06 => some .siteClose
  | 0x07 => some (.restart (fieldByte p 0))
  | 0x08 =>
    some (.setSchedule (fieldByte p 0)
      ⟨dayAt p 1, dayAt p 8, dayAt p 15, dayAt p 22, dayAt p 29, dayAt p 36, dayAt p 43⟩)
  | 0x09 => some (.setNoticeEnables (fieldBits 24 p 0 3))
  | 0x10 =>
    some (.authorize (fieldByte p 0) (fieldByte p 1) (fieldBits 32 p 2 4) (fieldByte p 6) (fieldByte p 7)
      (fieldBits 16 p 8 2) (fieldBits 32 p 10 4))
  | 0x11 => some (.cancelAuth (fieldByte p 0))
  | 0x12 => some (.stopFp (fieldByte p 0))
  | 0x13 => some (.fpStatus (fieldByte p 0))
  | 0x14 => some (.clearLock (fieldByte p 0))
  | 0x15 => some (.clearFault (fieldByte p 0))
  | 0x20 =>
    some (.stagePrices (fieldByte p 0) (fieldBits 24 p 1 3)
      ⟨priceAt p 4, priceAt p 9, priceAt p 14, priceAt p 19, priceAt p 24, priceAt p 29⟩)
  | 0x21 => some .cancelPrices
  | 0x22 => some .priceStatus
  | 0x30 => some (.readSale (fieldByte p 0) (fieldBits 32 p 1 4))
  | 0x31 => some (.settleSale (fieldBits 32 p 0 4) (fieldBits 32 p 4 4))
  | 0x32 => some (.takeOver (fieldBits 32 p 0 4))
  | 0x33 => some .journalStatus
  | 0x34 => some (.readTotals (fieldByte p 0))
  | 0x40 => some .readerStatus
  | 0x41 => some .readerRelease
  | 0x42 => some .readerPowerCycle
  | 0x43 => some (.sendToReader p)
  | 0x44 => some .abortToReader
  | 0x45 => some .readPassthrough
  | 0x46 => some .clearOverrun
  | 0x47 => some (.setReaderPolicy (fieldByte p 0) (fieldByte p 1) (fieldBits 32 p 2 4) (fieldByte p 6))
  | 0x50 => some .enterSetup
  | 0x51 => some .leaveSetup
  | 0x52 => some (.setItem (fieldByte p 0) (fieldByte p 1) (fieldBits 32 p 2 4))
  | 0x53 => some (.getItem (fieldByte p 0) (fieldByte p 1))
  | 0x54 => some (.setMeter (fieldByte p 0) (fieldBits 32 p 1 4))
  | 0x60 => some (.readAudit (fieldByte p 0))
  | 0x61 => some (.displayTest (fieldByte p 0))
  | _ => none

/-! ### Control frames (Table 10-12) -/

/-- The bytes of a control frame after its sync byte: length, kind, payload, CRC-16. -/
def frameTail (kind : Byte) (payload : List Byte) : List Byte :=
  let body := byteOf (payload.length + 1) ++ kind :: payload
  body ++ bytesBE 2 (crc16 body).toNat

/-- A control frame (Table 10-12). -/
def controlFrame (kind : Byte) (payload : List Byte) : List Byte := 0xC3#8 :: frameTail kind payload

/-- The frame of a request, after its sync byte. -/
def requestTail (r : Request) : List Byte := frameTail (requestKind r) (requestPayload r)

/-- Whether bytes after a sync byte are a complete frame: a length byte of 1..121, as many bytes, two CRC bytes (R201). -/
def frameComplete (bs : List Byte) : Bool :=
  decide (1 ≤ fieldNat bs 0 1) && decide (fieldNat bs 0 1 ≤ 121) && decide (bs.length = fieldNat bs 0 1 + 3)

/-- The CRC of a complete frame matches (R201). -/
def frameSound (bs : List Byte) : Bool :=
  decide (crc16 (bs.take (fieldNat bs 0 1 + 1)) = fieldBits 16 bs (fieldNat bs 0 1 + 1) 2)

/-- The kind of a complete frame. -/
def frameKind (bs : List Byte) : Byte := fieldByte bs 1

/-- The payload of a complete frame. -/
def framePayload (bs : List Byte) : List Byte := (bs.drop 2).take (fieldNat bs 0 1 - 1)

/-- Whether a length is one a kind allows. -/
def lengthAllowed (kind : Byte) (len : Nat) : Bool :=
  match kindLengths kind.toNat with
  | some (lo, hi) => decide (lo ≤ len) && decide (len ≤ hi)
  | none => false

/-! ### Replies with a layout (R202, R208, Tables 10-13 and 10-14) -/

/-- A site time as six bytes: day, seconds, valid flag (10.6.3). -/
def stampBytes (t : Stamp) : List Byte := bytesBE 2 t.day ++ bytesBE 3 t.seconds ++ byteOf t.valid.toNat

/-- Bytes of a field that may be absent, which is then sent as zeros. -/
def orZeros {α : Type} (n : Nat) (f : α → List Byte) (x : Option α) : List Byte :=
  match x with
  | some v => f v
  | none => List.replicate n 0#8

/-- The sale fields of an entry at offsets 20 to 47 of Table 10-14. -/
def saleBytes (x : SaleFields) : List Byte :=
  byteOf x.grade.number ++ bytesBE 2 x.price ++ bytesBE 2 x.generation ++ bytesBE 3 x.target ++ stampBytes x.start
    ++ bytesBE 3 x.volume ++ bytesBE 3 x.money ++ bytesBE 4 (min max32 x.accL) ++ bytesBE 4 (min max32 x.accH)

/-- The limit value of a limit, absent for NONE. -/
def limitBytes (l : Limit) : List Byte := bytesBE 4 l.value

/-- The presence byte of Table 10-14. -/
def entryPresence (e : Entry) : Nat :=
  e.sale.isSome.toNat + 2 * e.ended.isSome.toNat + 4 * e.overShort.isSome.toNat + 8 * e.settled.isSome.toNat
    + 16 * (decide (e.limit ≠ .none)).toNat

/-- The READ_SALE payload after its result code (Table 10-14). -/
def entryBytes (slot : Fin 32) (e : Entry) : List Byte :=
  byteOf slot.val ++ byteOf e.state.code ++ byteOf (entryPresence e) ++ bytesBE 4 e.seq ++ byteOf e.fp.number
    ++ byteOf (Side.code e.owner) ++ bytesBE 4 e.token.toNat ++ byteOf e.limit.kindCode ++ limitBytes e.limit
    ++ byteOf (Level.number e.level) ++ orZeros 28 saleBytes e.sale
    ++ orZeros 7 (fun x => stampBytes x.1 ++ byteOf x.2.code) e.ended ++ [e.flags.byte]
    ++ orZeros 2 (fun n => bytesBE 2 (min 65535 n)) e.overShort
    ++ orZeros 7 (fun x => byteOf x.1.code ++ stampBytes x.2) e.settled

/-- One item of the GET_NOTICES reply (R208). -/
def noticeBytes (x : NoticeItem) : List Byte :=
  byteOf x.number ++ byteOf x.count ++ byteOf (x.fps.fp1.toNat + 2 * x.fps.fp2.toNat + 128 * x.enable.toNat)

/-- What a reply carries after its result code, where the manual defines its layout (0.6). -/
def bodyBytes : Body → Option (List Byte)
  | .none => some []
  | .notices items => some (byteOf items.length ++ items.flatMap noticeBytes)
  | .granted seq slot limit expiry =>
    some (bytesBE 4 seq ++ byteOf slot.val ++ byteOf limit.kindCode ++ limitBytes limit ++ bytesBE 2 expiry)
  | .entry slot e => some (entryBytes slot e)
  | _ => none

/-- The frame of a reply, where its layout is defined (Table 10-12). -/
def replyFrame (r : Reply) : Option (List Byte) := (bodyBytes r.body).map (fun b => controlFrame r.kind (r.result.code :: b))

/-! ### Reader frames (Tables 10-15, 10-16, 10-18) -/

/-- A reader frame: lead, length, kind, fueling point, payload, CRC-8 (Table 10-15). -/
def readerFrame (kind fp : Byte) (payload : List Byte) : List Byte :=
  let body := byteOf (payload.length + 2) ++ kind :: fp :: payload
  0x96#8 :: body ++ [crc8 body]

/-- The presence byte of Table 10-18. -/
def reportPresence (x : SaleReport) : Nat :=
  x.sale.isSome.toNat + 2 * x.reason.isSome.toNat + 8 * x.settledBy.isSome.toNat

/-- The SALE_REPORT payload after its result OK (Table 10-18). -/
def reportBytes (x : SaleReport) : List Byte :=
  bytesBE 4 x.seq ++ byteOf x.state.code ++ byteOf (reportPresence x) ++ bytesBE 4 x.token.toNat
    ++ limitBytes x.limit ++ byteOf (Level.number x.level)
    ++ orZeros 9 (fun v => byteOf v.1.number ++ bytesBE 2 v.2.1 ++ bytesBE 3 v.2.2.1 ++ bytesBE 3 v.2.2.2) x.sale
    ++ orZeros 1 (fun r => byteOf r.code) x.reason ++ [x.flags.byte] ++ orZeros 1 (fun b => byteOf b.code) x.settledBy
    ++ List.replicate 10 0#8

/-- The fueling point byte of a frame about a fueling point. -/
def fpByte (f : Fp) : Byte := BitVec.ofNat 8 f.number

/-- The bytes of a frame to the reader (Table 10-16). A POLL and a HOST_TEXT carry fueling point 0. -/
def readerBytes : ReaderFrame → List Byte
  | .poll => readerFrame 0x01 0x00 []
  | .authReply fp r token granted =>
    readerFrame 0x02 fp
      (r.code :: bytesBE 4 token.toNat
        ++ match granted with
          | some (seq, limit, expiry) => bytesBE 4 seq ++ bytesBE 4 limit ++ bytesBE 2 expiry
          | none => [])
  | .cancelReply fp r token => readerFrame 0x03 fp (r.code :: bytesBE 4 token.toNat)
  | .saleReport fp r x =>
    readerFrame 0x04 fp
      (r.code :: match x with
        | some v => reportBytes v
        | none => [])
  | .settleReply fp r seq => readerFrame 0x05 fp (r.code :: bytesBE 4 seq)
  | .hostText n text => readerFrame 0x06 0x00 (byteOf n ++ text)
  | .saleDone f seq => readerFrame 0x07 (fpByte f) (bytesBE 4 seq)
  | .authEnded f seq c => readerFrame 0x08 (fpByte f) (bytesBE 4 seq ++ byteOf c.code)

/-- The least and greatest length of a frame from the reader; `none` for another kind (Table 10-16). -/
def readerLengths (kind : Nat) : Option (Nat × Nat) :=
  match kind with
  | 0x41 => some (2, 2)
  | 0x42 => some (15, 15)
  | 0x43 => some (6, 6)
  | 0x44 => some (2, 2)
  | 0x45 => some (10, 10)
  | 0x46 => some (3, 34)
  | 0x47 => some (3, 3)
  | _ => none

/-- The command a good answer's kind, fueling point and payload are (Table 10-16). -/
def readerCommand (kind : Nat) (fp : Byte) (p : List Byte) : Option Instr :=
  match kind with
  | 0x41 => some (.readerIdle fp)
  | 0x42 =>
    some (.authReq fp (fieldBits 32 p 0 4) (fieldByte p 4) (fieldBits 32 p 5 4) (fieldByte p 9) (fieldByte p 10)
      (fieldBits 16 p 11 2))
  | 0x43 => some (.authCancel fp (fieldBits 32 p 0 4))
  | 0x44 => some (.saleQuery fp)
  | 0x45 => some (.settle fp (fieldBits 32 p 0 4) (fieldBits 32 p 4 4))
  | 0x46 => some (.prompt fp p)
  | 0x47 => some (.textAck fp (fieldByte p 0))
  | _ => none

/-- Whether the bytes of a complete answer, from its length byte on, are good (R115). -/
def answerGood (bs : List Byte) : Bool :=
  let len := fieldNat bs 0 1
  decide (2 ≤ len) && decide (len ≤ 40) && decide (bs.length = len + 2)
    && (match readerLengths (fieldByte bs 1).toNat with
      | some (lo, hi) => decide (lo ≤ len) && decide (len ≤ hi)
      | none => false)
    && decide (crc8 (bs.take (len + 1)) = fieldByte bs (len + 1))

/-- The command a complete answer of the reader is: its frame when good, READER_RECEIVE_ERROR otherwise (R115). -/
def answerCommand (bs : List Byte) : Instr :=
  if answerGood bs then
    (readerCommand (fieldByte bs 1).toNat (fieldByte bs 2) ((bs.drop 3).take (fieldNat bs 0 1 - 2))).getD
      .readerReceiveError
  else .readerReceiveError

end Sys2Proof.Machine
end

