-- ==== Sys2Proof/Machine/ControlLink.lean ====
section
/-! DEFINITION. The control link's own commands: gathering and judging frames (R201 to R203), the replies, the
completion of a store write (R186, R204), the reset of RESTART (R181). -/

namespace Sys2Proof.Machine

/-! ### Gathering a frame (R201) -/

/-- A byte is examined in HUNTING: C3h starts a frame, any other is discarded (R201). -/
def Clp.examine (c : Clp) (b : Byte) : Clp :=
  if b = 0xC3#8 then { c with receiver := .receiving, buffer := [b] } else c.hunt

/-- A partial frame is discarded and counted, and a byte examined as a possible sync byte (R201). -/
def Clp.discard (c : Clp) (b : Byte) : Clp := c.countError.hunt.examine b

/-- CONTROL_SYNC_BYTE (R201). -/
def execControlSyncByte (s : State) : Host.Outcome State Fault Refusal :=
  s.take (fun x => if x.clp.receiver = .hunting then x.withClp (x.clp.examine 0xC3#8) else x)

/-- CONTROL_BYTE_TIMEOUT (R201). -/
def execControlByteTimeout (late : Byte) (s : State) : Host.Outcome State Fault Refusal :=
  s.take (fun x => if x.clp.receiver = .receiving then x.withClp (x.clp.discard late) else x)

/-- A byte that is no length (R201). -/
def badLengthByte (b : Byte) : Bool := decide (b.toNat = 0) || decide (121 < b.toNat)

/-- CONTROL_LENGTH_REJECT: the byte after the sync byte is no length (R201). -/
def execControlLengthReject (length : Byte) (s : State) : Host.Outcome State Fault Refusal :=
  s.take (fun x =>
    if x.clp.receiver = .receiving ∧ x.clp.buffer = [0xC3#8] ∧ badLengthByte length = true then
      x.withClp (x.clp.discard length)
    else x)

/-! ### Judging a frame (R202, R203) -/

/-- CLEAR_FAULT by its target byte (Table 10-6). -/
def State.answerClearFault (target : Byte) (s : State) : Answer :=
  if target = pumpTarget .pumpL then s.answerClearFaultPump .pumpL
  else if target = pumpTarget .pumpH then s.answerClearFaultPump .pumpH
  else s.answerClearFaultMeter target

/-- STAGE_PRICES by its activation byte; another code is a faulty activation field (R78). -/
def State.answerStagePrices (activation : Byte) (seconds : BitVec 24) (es : PerGrade RawPrice) (s : State) : Answer :=
  if activation = activationNow then s.answerStagePricesNow es
  else if activation = activationAt then s.answerStagePricesAt seconds es
  else s.reply .badField (.faultyGrade 0)

/-- The owning block's answer to a request (R202). -/
def answerOf : Request → State → Answer
  | .getStatus part => State.answerGetStatus part
  | .getNotices => State.answerGetNotices
  | .clearNotices mask => State.answerClearNotices mask
  | .setTime day seconds => State.answerSetTime day seconds
  | .siteOpen => State.answerSiteOpen
  | .siteClose => State.answerSiteClose
  | .restart force => State.answerRestart force
  | .setSchedule mode days => State.answerSetSchedule mode days
  | .setNoticeEnables mask => State.answerSetNoticeEnables mask
  | .authorize fp kind value level grades expiry token => State.answerAuthorize fp kind value level grades expiry token
  | .cancelAuth fp => State.answerCancelAuth fp
  | .stopFp fp => State.answerStopFp fp
  | .fpStatus fp => State.answerFpStatus fp
  | .clearLock fp => State.answerClearLock fp
  | .clearFault target => State.answerClearFault target
  | .stagePrices activation seconds es => State.answerStagePrices activation seconds es
  | .cancelPrices => State.answerCancelPrices
  | .priceStatus => State.answerPriceStatus
  | .readSale selector value => State.answerReadSale selector value
  | .settleSale seq token => State.answerSettleSale seq token
  | .takeOver seq => State.answerTakeOver seq
  | .journalStatus => State.answerJournalStatus
  | .readTotals part => State.answerReadTotals part
  | .readerStatus => State.answerReaderStatus
  | .readerRelease => State.answerReaderRelease
  | .readerPowerCycle => State.answerReaderPowerCycle
  | .sendToReader text => State.answerSendToReader text
  | .abortToReader => State.answerAbortToReader
  | .readPassthrough => State.answerReadPassthrough
  | .clearOverrun => State.answerClearOverrun
  | .setReaderPolicy kinds fps ceiling autoCycle => State.answerSetReaderPolicy kinds fps ceiling autoCycle
  | .enterSetup => State.answerEnterSetup
  | .leaveSetup => State.answerLeaveSetup
  | .setItem item index value => State.answerSetItem item index value
  | .getItem item index => State.answerGetItem item index
  | .setMeter meter cf => State.answerSetMeter meter cf
  | .readAudit skip => State.answerReadAudit skip
  | .displayTest module => State.answerDisplayTest module

/-- A frame whose CRC does not match: FRAME_ERROR with kind FFh, one more link error (R202, R203). -/
def State.frameError (s : State) : State :=
  let s1 := s.withClp s.clp.countError
  if s.clp.outstanding.isSome then
    match s.clp.held with
    | none => s1.withClp { s1.clp with held := some ⟨0xFF#8, .frameError, .none⟩ }
    | some _ => s1
  else (s1.code .frameError).taken none 0xFF#8

/-- A frame that names no message, or carries a wrong length: answered with a code alone (R202), or held (R203). -/
def State.frameRefused (s : State) (kind : Byte) (r : Result) : State :=
  if s.clp.outstanding.isSome then s.withClp (s.clp.hold ⟨replyKind kind, .busy, .none⟩)
  else (s.code r).taken none kind

/-- A LEAVE_SETUP may have changed a module that stage S3 waited for (R108, R110). -/
def State.afterRequest (s : State) (r : Request) : State :=
  match r with
  | .leaveSetup => s.blankingTest
  | _ => s

/-- A complete frame is judged, or held, in the order of R202 and R203. -/
def State.judgeFrame (s : State) (bs : List Byte) : State :=
  if frameSound bs = false then s.frameError
  else if (kindLengths (frameKind bs).toNat).isNone then s.frameRefused (frameKind bs) .unknownKind
  else if lengthAllowed (frameKind bs) (fieldNat bs 0 1) = false then s.frameRefused (frameKind bs) .badLength
  else
    match requestOf (frameKind bs).toNat (framePayload bs) with
    | some r => (State.message (requestKind r) r (answerOf r) s).afterRequest r
    | none => s.frameRefused (frameKind bs) .unknownKind

/-- A byte reaches the receiver: the link after it, and the bytes after the sync byte of a frame it completes (R201). -/
def Clp.gather (c : Clp) (b : Byte) : Clp × Option (List Byte) :=
  match c.receiver with
  | .hunting => (c.examine b, none)
  | .receiving =>
    if c.buffer.length = 1 ∧ badLengthByte b = true then (c.discard b, none)
    else
      let gathered := c.buffer ++ [b]
      if gathered.length = fieldNat gathered 1 1 + 4 then (c.hunt, some (gathered.drop 1))
      else ({ c with buffer := gathered }, none)

/-- A byte reaches the receiver; a frame it completes is judged or held (R201 to R203). -/
def State.receiveByte (s : State) (b : Byte) : State :=
  match (s.clp.gather b).2 with
  | none => s.withClp (s.clp.gather b).1
  | some bs => (s.withClp (s.clp.gather b).1).judgeFrame bs

/-- Bytes reach the receiver one after another, none of them late (R201). -/
def State.receive (s : State) (bytes : List Byte) : State := bytes.foldl State.receiveByte s

/-- CONTROL_FRAME_COMPLETE (R201 to R203), with METSW at a level as the frame is taken (assumption 8). -/
def execControlFrameComplete (bytes : WithSwitch (List Byte)) (s : State) : Host.Outcome State Fault Refusal :=
  (s.withMetsw bytes.switchClosed).takeFp (fun x => x.receive bytes.content)

/-! ### Replies (R203, R204) -/

/-- The reply of the outstanding request begins if it waits for nothing more and nothing is being sent (R203, R204). -/
def Clp.startReply (c : Clp) : Clp :=
  match c.outstanding with
  | some o => if o.awaitWrites = 0 ∧ c.sending = .nothing then { c with sending := .reply } else c
  | none => c

/-- The outstanding reply has been sent in full: the request is over, and the held answer follows (R203). -/
def Clp.replySent (c : Clp) : Clp :=
  { c with outstanding := none, sending := if c.held.isSome then .held else .nothing }

/-- The held answer has been sent in full, and a reply that is ready follows it (R203). -/
def Clp.heldSent (c : Clp) : Clp := Clp.startReply { c with held := none, sending := .nothing }

/-- The last byte of what is being sent is out; after a RESTART's reply the reset follows (R181, R203, R204). -/
def State.sent (s : State) : State :=
  match s.clp.sending, s.clp.outstanding with
  | .nothing, _ => s
  | .held, _ => s.withClp s.clp.heldSent
  | .reply, some o => if o.restarts then s.beginReset .restart else s.withClp s.clp.replySent
  | .reply, none => s.withClp s.clp.replySent

/-- REPLY_SENT (R181, R203, R204). -/
def execReplySent (s : State) : Host.Outcome State Fault Refusal := s.take State.sent

/-! ### The store write (R186, R204) -/

/-- A reply waits for one store write less (R204). -/
def Clp.writeDone (c : Clp) : Clp :=
  Clp.startReply { c with outstanding := c.outstanding.map (fun o => { o with awaitWrites := o.awaitWrites - 1 }) }

/-- A store write completes (R186). -/
def State.writeComplete (s : State) : State :=
  if s.sus.writing.isSome then s.completeWrite.withClp s.clp.writeDone else s

/-- STORE_WRITE_COMPLETE (R186, R204). -/
def execStoreWriteComplete (s : State) : Host.Outcome State Fault Refusal := s.take State.writeComplete

end Sys2Proof.Machine
end

