-- ==== Sys2Proof/Machine/Dispatch.lean ====
section
/-! DEFINITION. The dispatch: one arm for each command, in the order of the opcode table. -/

namespace Sys2Proof.Machine

/-- What a command does to everything but the queue (95_what_each_step_holds.md). -/
def exec (i : Instr) (s : State) : Host.Outcome State Fault Refusal :=
  match i with
  | .powerOnReset clockLost => Sys2Proof.Machine.execPowerOnReset clockLost s
  | .resetPin => Sys2Proof.Machine.execResetPin s
  | .resetEnd straps => Sys2Proof.Machine.execResetEnd straps s
  | .recoveryStageEnd => Sys2Proof.Machine.execRecoveryStageEnd s
  | .meterInputEdge meter input level elapsed => Sys2Proof.Machine.execMeterInputEdge meter input level elapsed s
  | .rateBinTimerExpiry => Sys2Proof.Machine.execRateBinTimerExpiry s
  | .recentFlagExpiry meter => Sys2Proof.Machine.execRecentFlagExpiry meter s
  | .valveIntervalExpiry fp valve => Sys2Proof.Machine.execValveIntervalExpiry fp valve s
  | .nozzleSwitchChange fp nozzle up => Sys2Proof.Machine.execNozzleSwitchChange fp nozzle up s
  | .nozzleLift fp nozzle => Sys2Proof.Machine.execNozzleLift fp nozzle s
  | .nozzleHang fp nozzle => Sys2Proof.Machine.execNozzleHang fp nozzle s
  | .authExpiry fp => Sys2Proof.Machine.execAuthExpiry fp s
  | .noFlowExpiry fp => Sys2Proof.Machine.execNoFlowExpiry fp s
  | .runOutExpiry fp => Sys2Proof.Machine.execRunOutExpiry fp s
  | .inrushGapExpiry => Sys2Proof.Machine.execInrushGapExpiry s
  | .pumpFeedbackAsserted pump => Sys2Proof.Machine.execPumpFeedbackAsserted pump s
  | .pumpFeedbackReleased pump => Sys2Proof.Machine.execPumpFeedbackReleased pump s
  | .pumpFeedbackTimerExpiry pump => Sys2Proof.Machine.execPumpFeedbackTimerExpiry pump s
  | .pumpPrimeExpiry pump => Sys2Proof.Machine.execPumpPrimeExpiry pump s
  | .pumpRunOnExpiry pump => Sys2Proof.Machine.execPumpRunOnExpiry pump s
  | .timeOfDayStep => Sys2Proof.Machine.execTimeOfDayStep s
  | .closeGraceExpiry => Sys2Proof.Machine.execCloseGraceExpiry s
  | .stageSettleExpiry => Sys2Proof.Machine.execStageSettleExpiry s
  | .heatTimerExpiry => Sys2Proof.Machine.execHeatTimerExpiry s
  | .ambientReading celsius => Sys2Proof.Machine.execAmbientReading celsius s
  | .creepWatchExpiry => Sys2Proof.Machine.execCreepWatchExpiry s
  | .holdTimerExpiry fp => Sys2Proof.Machine.execHoldTimerExpiry fp s
  | .powerWarning => Sys2Proof.Machine.execPowerWarning s
  | .powerWarningRelease => Sys2Proof.Machine.execPowerWarningRelease s
  | .readerCycleExpiry => Sys2Proof.Machine.execReaderCycleExpiry s
  | .autoCycleHoldoffExpiry => Sys2Proof.Machine.execAutoCycleHoldoffExpiry s
  | .readerWaitingExpiry => Sys2Proof.Machine.execReaderWaitingExpiry s
  | .exchangeTimerExpiry => Sys2Proof.Machine.execExchangeTimerExpiry s
  | .readerFrameSent => Sys2Proof.Machine.execReaderFrameSent s
  | .readerAnswerWindowClose => Sys2Proof.Machine.execReaderAnswerWindowClose s
  | .readerReceiveError => Sys2Proof.Machine.execReaderReceiveError s
  | .readerIdle fp => Sys2Proof.Machine.execReaderIdle fp s
  | .authReq fp token limitKind limitValue level grades expiry => Sys2Proof.Machine.execAuthReq fp token limitKind limitValue level grades expiry s
  | .authCancel fp token => Sys2Proof.Machine.execAuthCancel fp token s
  | .saleQuery fp => Sys2Proof.Machine.execSaleQuery fp s
  | .settle fp seq token => Sys2Proof.Machine.execSettle fp seq token s
  | .prompt fp text => Sys2Proof.Machine.execPrompt fp text s
  | .textAck fp number => Sys2Proof.Machine.execTextAck fp number s
  | .fieldUpdateStart => Sys2Proof.Machine.execFieldUpdateStart s
  | .displayWriteEnd acked => Sys2Proof.Machine.execDisplayWriteEnd acked s
  | .displayCheckEnd answer => Sys2Proof.Machine.execDisplayCheckEnd answer s
  | .busError => Sys2Proof.Machine.execBusError s
  | .busRecoveryEnd released => Sys2Proof.Machine.execBusRecoveryEnd released s
  | .fieldStale fp field => Sys2Proof.Machine.execFieldStale fp field s
  | .storeWriteComplete => Sys2Proof.Machine.execStoreWriteComplete s
  | .controlByteTimeout late => Sys2Proof.Machine.execControlByteTimeout late s
  | .controlLengthReject length => Sys2Proof.Machine.execControlLengthReject length s
  | .controlFrameComplete bytes => Sys2Proof.Machine.execControlFrameComplete bytes s
  | .replySent => Sys2Proof.Machine.execReplySent s
  | .getStatus part => Sys2Proof.Machine.execGetStatus part s
  | .getNotices => Sys2Proof.Machine.execGetNotices s
  | .clearNotices mask => Sys2Proof.Machine.execClearNotices mask s
  | .setTime day seconds => Sys2Proof.Machine.execSetTime day seconds s
  | .siteOpen => Sys2Proof.Machine.execSiteOpen s
  | .siteClose => Sys2Proof.Machine.execSiteClose s
  | .restart force => Sys2Proof.Machine.execRestart force s
  | .setSchedule mode days => Sys2Proof.Machine.execSetSchedule mode days s
  | .setNoticeEnables mask => Sys2Proof.Machine.execSetNoticeEnables mask s
  | .authorize fp limitKind limitValue level grades expiry token => Sys2Proof.Machine.execAuthorize fp limitKind limitValue level grades expiry token s
  | .cancelAuth fp => Sys2Proof.Machine.execCancelAuth fp s
  | .stopFp fp => Sys2Proof.Machine.execStopFp fp s
  | .fpStatus fp => Sys2Proof.Machine.execFpStatus fp s
  | .clearLock fp => Sys2Proof.Machine.execClearLock fp s
  | .clearFaultMeter meter => Sys2Proof.Machine.execClearFaultMeter meter s
  | .clearFaultPump pump => Sys2Proof.Machine.execClearFaultPump pump s
  | .stagePricesAt seconds entries => Sys2Proof.Machine.execStagePricesAt seconds entries s
  | .stagePricesNow seconds entries => Sys2Proof.Machine.execStagePricesNow seconds entries s
  | .cancelPrices => Sys2Proof.Machine.execCancelPrices s
  | .priceStatus => Sys2Proof.Machine.execPriceStatus s
  | .readSale selector value => Sys2Proof.Machine.execReadSale selector value s
  | .settleSale seq token => Sys2Proof.Machine.execSettleSale seq token s
  | .takeOver seq => Sys2Proof.Machine.execTakeOver seq s
  | .journalStatus => Sys2Proof.Machine.execJournalStatus s
  | .readTotals part => Sys2Proof.Machine.execReadTotals part s
  | .readerStatus => Sys2Proof.Machine.execReaderStatus s
  | .readerRelease => Sys2Proof.Machine.execReaderRelease s
  | .readerPowerCycle => Sys2Proof.Machine.execReaderPowerCycle s
  | .sendToReader text => Sys2Proof.Machine.execSendToReader text s
  | .abortToReader => Sys2Proof.Machine.execAbortToReader s
  | .readPassthrough => Sys2Proof.Machine.execReadPassthrough s
  | .clearOverrun => Sys2Proof.Machine.execClearOverrun s
  | .setReaderPolicy kinds fps ceiling autoCycle => Sys2Proof.Machine.execSetReaderPolicy kinds fps ceiling autoCycle s
  | .enterSetup => Sys2Proof.Machine.execEnterSetup s
  | .leaveSetup => Sys2Proof.Machine.execLeaveSetup s
  | .setItem item index value => Sys2Proof.Machine.execSetItem item index value s
  | .getItem item index => Sys2Proof.Machine.execGetItem item index s
  | .setMeter meter cf switchClosed => Sys2Proof.Machine.execSetMeter meter cf switchClosed s
  | .readAudit skip => Sys2Proof.Machine.execReadAudit skip s
  | .displayTest module => Sys2Proof.Machine.execDisplayTest module s
  | .controlSyncByte => Sys2Proof.Machine.execControlSyncByte s

end Sys2Proof.Machine
end

