-- ==== Sys2Proof/Safety.lean ====
section
/-! DEFINITION. The terms the claims use: when the control link takes a request and what a reply leaves, the
state with time passed, what holds of a safe state. -/

namespace Sys2Proof.Machine

/-! ### Requests and replies -/

/-- A request is taken and answered by its owning block: no reset in force, no request outstanding, and not in
RECOVERING (R180, R202, R203). -/
def State.takesRequests (s : State) : Prop :=
  s.resetHeld = none ∧ s.clp.outstanding = none ∧ s.sps.seq ≠ .recovering

/-- The link with a request outstanding and its reply made, the receiver HUNTING with an empty buffer; the reply is
being sent unless it waits for store writes or a held answer is still being sent (R201 to R204). -/
def Clp.answering (c : Clp) (request : Request) (kind : Byte) (result : Result) (body : Body) (awaitWrites : Nat) :
    Clp :=
  { c with
    receiver := .hunting
    buffer := []
    outstanding := some ⟨some request, ⟨kind, result, body⟩, awaitWrites, false⟩
    sending := if awaitWrites = 0 ∧ c.sending = .nothing then .reply else c.sending }

/-- The state with a request answered at once. -/
def State.answered (s : State) (request : Request) (kind : Byte) (result : Result) (body : Body) : State :=
  { s with clp := s.clp.answering request kind result body 0 }

/-- The message row a request is the frame of, with METSW at a level; `none` for a STAGE_PRICES whose activation is
neither NOW nor AT, which no row carries (Tables 10-5 to 10-10, R78). -/
def messageOf (metsw : Bool) : Request → Option Instr
  | .getStatus part => some (.getStatus ⟨part, metsw⟩)
  | .getNotices => some .getNotices
  | .clearNotices mask => some (.clearNotices mask)
  | .setTime day seconds => some (.setTime day seconds)
  | .siteOpen => some .siteOpen
  | .siteClose => some .siteClose
  | .restart force => some (.restart force)
  | .setSchedule mode days => some (.setSchedule mode days)
  | .setNoticeEnables mask => some (.setNoticeEnables mask)
  | .authorize fp kind value level grades expiry token => some (.authorize fp kind value level grades expiry token)
  | .cancelAuth fp => some (.cancelAuth fp)
  | .stopFp fp => some (.stopFp fp)
  | .fpStatus fp => some (.fpStatus fp)
  | .clearLock fp => some (.clearLock fp)
  | .clearFault target =>
    if target = 0x81#8 then some (.clearFaultPump .pumpL)
    else if target = 0x82#8 then some (.clearFaultPump .pumpH)
    else some (.clearFaultMeter target)
  | .stagePrices activation seconds es =>
    if activation = 0x00#8 then some (.stagePricesNow seconds es)
    else if activation = 0x01#8 then some (.stagePricesAt seconds es)
    else none
  | .cancelPrices => some .cancelPrices
  | .priceStatus => some .priceStatus
  | .readSale selector value => some (.readSale selector value)
  | .settleSale seq token => some (.settleSale seq token)
  | .takeOver seq => some (.takeOver seq)
  | .journalStatus => some .journalStatus
  | .readTotals part => some (.readTotals part)
  | .readerStatus => some .readerStatus
  | .readerRelease => some .readerRelease
  | .readerPowerCycle => some .readerPowerCycle
  | .sendToReader text => some (.sendToReader text)
  | .abortToReader => some .abortToReader
  | .readPassthrough => some .readPassthrough
  | .clearOverrun => some .clearOverrun
  | .setReaderPolicy kinds fps ceiling autoCycle => some (.setReaderPolicy kinds fps ceiling autoCycle)
  | .enterSetup => some .enterSetup
  | .leaveSetup => some .leaveSetup
  | .setItem item index value => some (.setItem item index value)
  | .getItem item index => some (.getItem item index)
  | .setMeter meter cf => some (.setMeter meter cf metsw)
  | .readAudit skip => some (.readAudit skip)
  | .displayTest module => some (.displayTest module)

/-- The catalogue of Tables 10-5 to 10-10: each kind with the least and the greatest length it allows. -/
def catalogue : List (Nat × Nat × Nat) :=
  [(0x01, 2, 2), (0x02, 1, 1), (0x03, 4, 4), (0x04, 6, 6), (0x05, 1, 1), (0x06, 1, 1), (0x07, 2, 2), (0x08, 51, 51),
   (0x09, 4, 4), (0x10, 15, 15), (0x11, 2, 2), (0x12, 2, 2), (0x13, 2, 2), (0x14, 2, 2), (0x15, 2, 2),
   (0x20, 35, 35), (0x21, 1, 1), (0x22, 1, 1), (0x30, 6, 6), (0x31, 9, 9), (0x32, 5, 5), (0x33, 1, 1), (0x34, 2, 2),
   (0x40, 1, 1), (0x41, 1, 1), (0x42, 1, 1), (0x43, 1, 121), (0x44, 1, 1), (0x45, 1, 1), (0x46, 1, 1), (0x47, 8, 8),
   (0x50, 1, 1), (0x51, 1, 1), (0x52, 7, 7), (0x53, 3, 3), (0x54, 6, 6), (0x60, 2, 2), (0x61, 2, 2)]

/-- A text that fits a control frame: at most 120 bytes of payload (R201). -/
def requestFits : Request → Prop
  | .sendToReader text => text.length ≤ 120
  | _ => True

/-! ### Answers of the reader -/

/-- A good answer is taken with the link staying ACTIVE: an exchange is in flight with its frame sent, both error
counts fall below 80, and no HOST_TEXT waits for its acknowledgement (R114, R116, R117, R134). -/
def State.hears (s : State) : Prop :=
  s.resetHeld = none ∧ s.riu.awaiting = true ∧ s.riu.link = .active ∧ s.riu.sendErrors ≤ 80 ∧ s.riu.recvErrors ≤ 80 ∧
    s.riu.textStage ≠ .sent

/-- The state once a good answer has had its outcome and before its frame is handled: the exchange over, one off each
error count (R116). -/
def State.heard (s : State) : State :=
  { s with
    riu := { s.riu with
      exchange := none, sendErrors := s.riu.sendErrors - 1, recvErrors := s.riu.recvErrors - 1 } }

/-! ### The audit sampler -/

/-- An eligible pulse has been taken by the sampler (R14 to R17): the shift register stepped, stage n its bit n − 1; the
countdown lowered if stages 1 to 3 are then all ones, and at 0 reloaded with SAC and the sample `x` recorded in the slot
after the newest one. -/
def Miu.sampledFrom (t s : Miu) (sac : Nat) (x : Sample) : Prop :=
  (∀ n, n < 15 → t.lfsr.getLsbD (n + 1) = s.lfsr.getLsbD n) ∧
    t.lfsr.getLsbD 0 = (s.lfsr.getLsbD 15 ^^ s.lfsr.getLsbD 14 ^^ s.lfsr.getLsbD 12 ^^ s.lfsr.getLsbD 3) ∧
    ((t.lfsr.getLsbD 0 && t.lfsr.getLsbD 1 && t.lfsr.getLsbD 2) = false →
      t.countdown = s.countdown ∧ t.newest = s.newest ∧ t.ring = s.ring ∧ t.count = s.count) ∧
    ((t.lfsr.getLsbD 0 && t.lfsr.getLsbD 1 && t.lfsr.getLsbD 2) = true →
      (1 < s.countdown →
        t.countdown = s.countdown - 1 ∧ t.newest = s.newest ∧ t.ring = s.ring ∧ t.count = s.count) ∧
      (s.countdown ≤ 1 →
        t.countdown = sac ∧ t.newest = s.newest + 1 ∧ t.count = min 16 (s.count + 1) ∧
          (t.ring.get t.newest = some x) ∧ ∀ i, i ≠ t.newest → t.ring.get i = s.ring.get i))

/-! ### Resets -/

/-- The sequencer as Table 8-7 leaves it: RECOVERING at W0, nothing frozen or to resume, the wanted site state CLOSED,
heater, supplies and reader domain OFF, cold flag clear, no warm-up, and every timer of the table stopped (R185). -/
def Sps.isAfterReset (p : Sps) (cause : ResetCause) (pwarn : Bool) : Prop :=
  p.seq = .recovering ∧ p.stage = .w0 ∧ p.frozenFrom = .none ∧ p.resume = .none ∧ p.wantedOpen = false ∧
    p.heater = false ∧ p.heatTimer = none ∧ p.closeGrace = none ∧ p.stageTimer = none ∧ p.cycleTimer = none ∧
    p.cold = false ∧ p.warmUp = .none ∧ p.warmTimer = none ∧ p.pulserSupply = false ∧ p.displaySupply = false ∧
    p.domain = .off ∧ (∀ f, p.holdTimers.get f = none) ∧ p.warning = pwarn ∧ p.lastReset = cause

/-- The stored record through a reset: kept, but failing its check if a write was in progress (R186, R198). -/
def Sus.recordKept (u : Sus) : StoredRecord :=
  { u.stored with check := if u.writing.isNone then u.stored.check else none }

/-- Every block of `t` but its pins, its link and its pumps is in the state a reset of `s` gives it, as its chapter's
reset table says: the retained items kept, the time of day and the time to its next step given (R180). -/
def State.blocksReset (t s : State) (cause : ResetCause) (time : Stamp) (step : Timer) : Prop :=
  t.nu = Nu.atReset ∧ t.miu = Miu.atReset Image.defaults ∧ t.fpc = PerFp.both Fpc.atReset ∧ t.pru = Pru.atReset ∧
    t.dbc = Dbc.atReset Image.defaults ∧ t.riu = Riu.atReset ∧
    t.sj = { s.sj with totalsCorrupt := false, lowArmed := true, holdEntries := .both none } ∧
    t.sps = Sps.atReset time step s.pins.pwarn cause ∧ t.sps.isAfterReset cause s.pins.pwarn ∧
    t.sus = Sus.atReset s.sus.recordKept ∧ t.sus.edit = none ∧ t.sus.writing = none

/-- `t` is `s` in the state a reset gives it, with the reset in force (R180). -/
def State.isResetOf (t s : State) (cause : ResetCause) (time : Stamp) (step : Timer) : Prop :=
  t.resetHeld = some cause ∧ t.pins = s.pins ∧ t.clp = Clp.atReset s.clp.rate ∧ t.psg = Psg.atReset ∧
    t.blocksReset s cause time step

/-! ### The end of a sale -/

/-- A fueling point's valves are shut: no valve period runs (R39). -/
def Fpc.valvesShut (c : Fpc) : Prop := c.valveL = none ∧ c.valveH = none

/-- Between `s` and `t` the sale of a fueling point has ended with a reason (R62): its valves shut, no authorization and
no stop cause left, its entry UNSETTLED with the figures of its registers, SALE_DONE raised for it. -/
def State.saleEnded (s t : State) (f : Fp) (r : Sale) (a : Auth) (reason : EndReason) : Prop :=
  (t.fp f).lastEnd = some reason ∧ (t.fp f).auth = none ∧ (t.fp f).stopCause = none ∧ (t.fp f).valvesShut ∧
    (∀ e, s.sj.slot a.slot = some e → ∃ e', t.sj.slot a.slot = some e' ∧ e'.state = .unsettled ∧ e'.seq = e.seq ∧
      e'.ended = some (s.sps.time, reason) ∧
      e'.sale = e.sale.map (fun x => { x with
        volume := r.volume, money := r.money, accL := r.accL / 1000000, accH := r.accH / 1000000 })) ∧
    (t.nu.get .saleDone).pending = true ∧ (t.nu.get .saleDone).fps.get f = true

/-- Whether the end of a fueling point's sale with a reason locks it: the reason does, or a fault noted in the sale, or a
price panel that failed (R62). -/
def State.endLocks (s : State) (f : Fp) (reason : EndReason) : Bool :=
  (reason.lockCauses.union (s.fp f).noted).any || (s.fp f).lockAfterSale

/-- The state of a fueling point after the end of its sale is the one R62 gives it for its causes and for the nozzles
that are up. -/
def State.landsAfterSale (s t : State) (f : Fp) (reason : EndReason) : Prop :=
  (t.fp f).state =
    (if s.endLocks f reason = true then .locked
    else if (s.fp f).closedCauses.any then .closed
    else if (s.fp f).saleNozzle.any (fun n => (t.fp f).nozzleUp.get n) then .ended
    else if (t.fp f).upList.isEmpty then .idle
    else .calling)

/-- Between `s` and `t` the sale of a fueling point in STARTING has ended with a reason (R56, R62), and, while the site is
not in CLOSING, its next state is the one R62 gives it. -/
def State.endsFromStarting (s t : State) (f : Fp) (r : Sale) (a : Auth) (reason : EndReason) : Prop :=
  s.saleEnded t f r a reason ∧ (s.sps.seq ≠ .closing → s.landsAfterSale t f reason)

/-- Between `s`, with the reader domain not OFF, and `t` the site has passed to SHUTTING (R65, R74, R166, R167): the
close grace stopped, both fueling points CLOSED by the site or LOCKED, no pump left in STARTING, PRIMING or RUN_ON,
and the settle time running in S1, or, with no contactor to open, in S2 with the reader domain OFF. -/
def State.shutsFrom (t s : State) : Prop :=
  t.sps.seq = .shutting ∧ t.sps.closeGrace = none ∧ t.sps.stageTimer = some (s.sus.image.settle * 1000) ∧
    (t.sps.stage = .s1 ∧ t.sps.domain = s.sps.domain ∨ t.sps.stage = .s2 ∧ t.sps.domain = .off) ∧
    (∀ p, (t.pump p).state ≠ .starting ∧ (t.pump p).state ≠ .priming ∧ (t.pump p).state ≠ .runOn) ∧
    ∀ f, (t.fp f).closedCauses.site = true ∧ ((t.fp f).state = .closed ∨ (t.fp f).state = .locked)

/-- A fueling point ARMED or in a sale: what holds a closing site from SHUTTING (R166). A freeze leaves none (R66). -/
def State.busyAt (s : State) (f : Fp) : Prop := (s.fp f).state = .armed ∨ s.inSale f = true

/-! ### What holds of a safe state -/

/-- Every present journal entry has a sequence number below the next one to be given, and no two entries have
the same one (R141, R143). -/
def Sj.numbered (j : Sj) : Prop :=
  (∀ i e, j.slot i = some e → e.seq < j.nextSeq) ∧
    ∀ i k e d, j.slot i = some e → j.slot k = some d → e.seq = d.seq → i = k

/-- The check word matches the totalizer block, unless the totals are known corrupt or the check has not yet
been made (R154, R155). -/
def State.checkWordKept (s : State) : Prop :=
  s.sj.totalsCorrupt = true ∨ s.sps.seq = .recovering ∨ s.sj.checkWord = s.sj.totals.check

/-- No item of one totalizer block is below that of another (R152). -/
def Totals.le (a b : Totals) : Prop :=
  (∀ m, a.meterVolume.get m ≤ b.meterVolume.get m) ∧ (∀ m, a.unassigned.get m ≤ b.unassigned.get m) ∧
    (∀ g, a.gradeVolume.get g ≤ b.gradeVolume.get g) ∧ (∀ g, a.gradeMoney.get g ≤ b.gradeMoney.get g) ∧
    (∀ f, a.saleCount.get f ≤ b.saleCount.get f) ∧ a.calibrations ≤ b.calibrations

/-- Every item of a totalizer block is within its width: 64 bits for volumes and money, 32 for the sale counts, 16 for
the calibration counter (Table 7-5, R152, R153). -/
def Totals.bounded (t : Totals) : Prop :=
  (∀ m, t.meterVolume.get m ≤ max64) ∧ (∀ m, t.unassigned.get m ≤ max64) ∧ (∀ g, t.gradeVolume.get g ≤ max64) ∧
    (∀ g, t.gradeMoney.get g ≤ max64) ∧ (∀ f, t.saleCount.get f ≤ max32) ∧ t.calibrations ≤ 65535

/-- In RECOVERING the part is as the reset left it where W0 relies on it: the stage W0, the pulser supply off, the
totals not yet found corrupt, both fueling points CLOSED by the site with no authorization and no hold entry named (R41,
R75, R157, R182, R185). -/
def State.recoveringFresh (s : State) : Prop :=
  s.sps.seq = .recovering →
    s.sps.stage = .w0 ∧ s.sps.pulserSupply = false ∧ s.sj.totalsCorrupt = false ∧
      ∀ f, (s.fp f).state = .closed ∧ (s.fp f).closedCauses.site = true ∧ (s.fp f).auth = none ∧
        s.sj.holdEntries.get f = none

/-- Every authorization holds its own journal entry: the entry in its slot has its sequence number and its fueling
point, and is RESERVED or ACTIVE (R46, R142, R144). -/
def State.entriesHeld (s : State) : Prop :=
  ∀ f a, (s.fp f).auth = some a →
    ∃ e, s.sj.slot a.slot = some e ∧ e.seq = a.seq ∧ e.fp = f ∧ (e.state = .reserved ∨ e.state = .active)

/-- No valve is driven outside FUELING (R39). -/
def State.valvesKept (s : State) : Prop := ∀ f, (s.fp f).state ≠ .fueling → (s.fp f).valvesShut

end Sys2Proof.Machine
end

