-- ==== Sys2Proof/Certificates/Slice0/Obligations.lean ====
section
/-! DEFINITION. The statements for the provers. Where a docstring says 'From R…', the statement formalises what it
spells out, not every sentence of those rules. -/

open Sys2Proof Sys2Proof.Machine

/-! ### Steps, idling, resets -/

/-- 95_what_each_step_holds.md gives each command as one indivisible step. That the commands wait in one first-in
first-out queue is the model's choice (assumption 1): a step takes the command at the front of the queue and runs it on
the state with the queue's rest. -/
def Obligations.StepRunsFrontCommand : Prop :=
  ∀ (c : Instr) (rest : List Instr) (s : State), step (s.withPending (c :: rest)) = exec c (s.withPending rest)

/-- The model's choice (assumption 2): a step on an empty queue is one microsecond. The pulse clock counts it, no
block but the timed ones changes, and no state of a fueling point, a pump, the link or the sequencer does. -/
def Obligations.IdleStepIsOneMicrosecond : Prop :=
  ∀ s : State, s.pending = [] → ∃ t, step s = .next t ∧ t.miu.clock = s.miu.clock + 1 ∧
    t.pending = [] ∧ t.resetHeld = s.resetHeld ∧ t.clp = s.clp ∧ t.nu = s.nu ∧ t.pru = s.pru ∧ t.dbc = s.dbc ∧
    t.sj = s.sj ∧ t.sus = s.sus ∧ (∀ f, (t.fp f).state = (s.fp f).state ∧ (t.fp f).sale = (s.fp f).sale) ∧
    (∀ p, (t.pump p).state = (s.pump p).state) ∧ t.riu.link = s.riu.link ∧ t.sps.seq = s.sps.seq ∧
    t.sps.time = s.sps.time

/-- The manual stops the part nowhere: every command in every state answers a next state. That a command whose event
cannot occur in the state it meets answers one too, and that no command changes the queue, are the model's choices
(assumptions 5 and 1). -/
def Obligations.EveryCommandAnswersNext : Prop :=
  ∀ (c : Instr) (s : State), ∃ t, exec c s = .next t ∧ t.pending = s.pending

/-- From R180, the model's reading (assumption 11): while a reset is in force, no command but a reset or RESET_END
changes the link, the notices, the prices, the displays, the journal, the store, or the state of a fueling point, a
pump, the reader link or the sequencer. -/
def Obligations.HeldResetTakesNoEffect : Prop :=
  ∀ (c : Instr) (s t : State), s.resetHeld.isSome → (∀ b, c ≠ .powerOnReset b) → c ≠ .resetPin →
    (∀ x, c ≠ .resetEnd x) → exec c s = .next t →
    t.resetHeld = s.resetHeld ∧ t.clp = s.clp ∧ t.nu = s.nu ∧ t.pru = s.pru ∧ t.dbc = s.dbc ∧ t.sj = s.sj ∧
      t.sus = s.sus ∧ (∀ f, (t.fp f).state = (s.fp f).state) ∧ (∀ p, (t.pump p).state = (s.pump p).state) ∧
      t.riu.link = s.riu.link ∧ t.riu.queue = s.riu.queue ∧ t.sps.seq = s.sps.seq ∧ t.sps.stage = s.sps.stage

/-- From R160, R180, R181, R185, R186, R198, R199, R75 and R76: a reset gives every block its state after a reset, the
sequencer that of Table 8-7 with the cause recorded, and keeps the pins, the retained items of the sale journal, the time
of day (lost only with both supplies) and the stored record (failing its check if a write was in progress).
POWER_ON_RESET and RESET_PIN do so at once; RESTART's reset follows its reply. As the reset ends every block is in that
state again, the link with the rate the straps select and nothing received or asked, every nozzle switch being debounced,
and the pumps OFF with nothing queued, a pump whose feedback is asserted with its feedback timer running. With no reset in
force RESET_END changes nothing. The model's choices: the last clause (assumption 5), and what the blocks hold while the
reset is in force and where their reset tables give no value (assumptions 11, 13, 66, 67 and 68). -/
def Obligations.ResetsResetAlikeAndEndInRecovering : Prop :=
  ∀ s : State,
    (∀ lost, ∃ t, exec (.powerOnReset lost) s = .next t ∧
      t.isResetOf s .powerOn (if lost then Stamp.lost else s.sps.time) (if lost then some 1000000 else s.sps.stepTimer)) ∧
    (∃ t, exec .resetPin s = .next t ∧ t.isResetOf s .pin s.sps.time s.sps.stepTimer) ∧
    (s.resetHeld = none → s.clp.sending = .reply → (∃ o, s.clp.outstanding = some o ∧ o.restarts = true) →
      ∃ t, exec .replySent s = .next t ∧ t.isResetOf s .restart s.sps.time s.sps.stepTimer) ∧
    ∀ straps : BitVec 2,
      (s.resetHeld = none → exec (.resetEnd straps) s = .next s) ∧
      ∀ cause, s.resetHeld = some cause →
        ∃ t, exec (.resetEnd straps) s = .next t ∧ t.resetHeld = none ∧
          t.blocksReset s cause s.sps.time s.sps.stepTimer ∧
          t.clp = Clp.atReset (if straps = 1 then 57600 else if straps = 2 then 115200 else 19200) ∧
          t.clp.receiver = .hunting ∧ t.clp.outstanding = none ∧ t.clp.held = none ∧ t.clp.sending = .nothing ∧
          t.pins = { s.pins with debounce := t.pins.debounce } ∧
          (∀ f n, (t.pins.debounce.get f).get n = some 50000) ∧
          t.psg.queue = [] ∧ t.psg.sinceStart = 0 ∧
          ∀ p, t.pump p = { PumpRec.atReset with
            feedbackTimer := if s.pins.feedback.get p then some 1000000 else none }

/-- From R182 with R15, R90, R107, R112, R155 to R157, R177, R186 and R187: stage W0 compares the CRC-16 over the stored
items with the stored check word and loads all five of them, or the defaults, the empty set and generation 1 if they
differ, with SETTINGS_LOST raised and NOT_SET_UP added; a grade the image leaves unused is unpriced. It checks the
totalizer block, raising TOTALS_CORRUPT and locking both fueling points if the check fails, recovers every slot of the
journal (RESERVED becomes FREE, ACTIVE becomes UNSETTLED with reason INTERRUPTED and is sold into the totals, the others
stand), counts both, names the hold entries and shows them or the no-sale values, sets the wanted site state from the
schedule, raises POWER_UP, TIME_INVALID if the time is invalid and POWER_FREEZE if PWARN is asserted or became asserted in
RECOVERING (once, the model's reading, assumption 58), and enters WAKING, FROZEN or NIGHT, at NIGHT with SITE_STATE. The
bytes the CRC is taken over are the model's choice (assumption 14). -/
def Obligations.RecoveryPutsRetainedStateInOrder : Prop :=
  ∀ (s : State) (sound : Bool), s.resetHeld = none → s.sps.seq = .recovering → s.recoveringFresh →
    sound = decide (s.sus.stored.check = some (crc16 s.sus.stored.items.bytes)) →
    ∃ t, exec .recoveryStageEnd s = .next t ∧
      -- the setup store
      t.sus = { s.sus with
        image := if sound then s.sus.stored.items.image else Image.defaults
        settingsLost := !sound } ∧
      t.sps.schedule = (if sound then s.sus.stored.items.schedule else Schedule.default) ∧
      t.riu = { s.riu with policy := if sound then s.sus.stored.items.policy else Policy.default } ∧
      t.pru.generation = (if sound then s.sus.stored.items.generation else 1) ∧
      (∀ g, t.pru.current.get g =
        if sound = true ∧ (s.sus.stored.items.image.share.get g).isSome then s.sus.stored.items.prices.get g else none) ∧
      t.pru.panelVerified = ⟨none, none⟩ ∧ t.pru.pendingSet = s.pru.pendingSet ∧
      (∀ f, (t.fp f).appliedGen = t.pru.generation ∧
        (t.fp f).closedCauses = { (s.fp f).closedCauses with
          notSetUp := (s.fp f).closedCauses.notSetUp || !sound }) ∧
      (∀ m, (t.module m).address = t.sus.image.address.get m) ∧
      t.miu.lfsr = (if BitVec.ofNat 16 t.sus.image.auditSeed = 0 then 1 else BitVec.ofNat 16 t.sus.image.auditSeed) ∧
      t.miu.countdown = t.sus.image.sac ∧
      -- the journal and the totals
      (∀ i, t.sj.slot i =
        match s.sj.slot i with
        | none => none
        | some e =>
          match e.state with
          | .reserved => none
          | .active => some { e with state := .unsettled, ended := some (s.sps.time, .interrupted) }
          | .unsettled => some e
          | .settled => some e) ∧
      t.sps.freedCount =
        ((List.finRange 32).filter (fun i => (s.sj.slot i).any (fun e => decide (e.state = .reserved)))).length ∧
      t.sps.interruptedCount =
        ((List.finRange 32).filter (fun i => (s.sj.slot i).any (fun e => decide (e.state = .active)))).length ∧
      t.sj.nextSeq = s.sj.nextSeq ∧ t.sj.anticipation = s.sj.anticipation ∧
      (t.sj.totalsCorrupt = true ↔ s.sj.totals.check ≠ s.sj.checkWord) ∧
      (∀ f, (t.fp f).state = (if s.sj.totals.check = s.sj.checkWord then .closed else .locked)) ∧
      (∀ f, s.sj.totals.check ≠ s.sj.checkWord → (t.fp f).lockCauses = ⟨false, false, false, true⟩) ∧
      t.sj.checkWord = (if s.sj.totals.check = s.sj.checkWord then t.sj.totals.check else s.sj.checkWord) ∧
      ((∀ i e, s.sj.slot i = some e → e.state ≠ .active) → t.sj.totals = s.sj.totals) ∧
      (∀ i e x, s.sj.slot i = some e → e.state = .active → e.sale = some x →
        (∀ k d, s.sj.slot k = some d → d.state = .active → k = i) →
        t.sj.totals = { s.sj.totals with
          gradeVolume := s.sj.totals.gradeVolume.set x.grade
            (min 18446744073709551615 (s.sj.totals.gradeVolume.get x.grade + x.volume))
          gradeMoney := s.sj.totals.gradeMoney.set x.grade
            (min 18446744073709551615 (s.sj.totals.gradeMoney.get x.grade + x.money))
          saleCount := s.sj.totals.saleCount.set e.fp (min 4294967295 (s.sj.totals.saleCount.get e.fp + 1)) }) ∧
      -- the hold entries
      t.sj.holdCandidates = ⟨none, none⟩ ∧
      (∀ i e, s.sj.slot i = some e → e.state = .active →
        (∀ k d, s.sj.slot k = some d → d.state = .active → d.fp = e.fp → k = i) →
        t.sj.holdEntries.get e.fp = some ⟨i, e.seq⟩) ∧
      (∀ f, (∀ i e, s.sj.slot i = some e → e.state = .active → e.fp ≠ f) →
        (s.sj.holdCandidates.get f = none → t.sj.holdEntries.get f = none) ∧
        ∀ r, s.sj.holdCandidates.get f = some r →
          t.sj.holdEntries.get f =
            if (t.sj.slot r.slot).any (fun e =>
              decide (e.seq = r.seq) && decide (e.ended.map Prod.snd = some EndReason.powerLoss)) then some r
            else none) ∧
      (∀ f, (∀ x, (t.sj.holdEntries.get f).bind (fun r => (t.sj.slot r.slot).bind Entry.sale) = some x →
          (t.fp f).hold = .pending ∧ (t.field f.main .f1).wanted = .number x.money ∧
            (t.field f.main .f2).wanted = .number (x.volume / 10) ∧ (t.field f.main .f3).wanted = .number x.price) ∧
        ((t.sj.holdEntries.get f).bind (fun r => (t.sj.slot r.slot).bind Entry.sale) = none →
          (t.fp f).hold = (s.fp f).hold ∧ (t.field f.main .f1).wanted = .number 0 ∧
            (t.field f.main .f2).wanted = .number 0 ∧ (t.field f.main .f3).wanted = .blank)) ∧
      -- the notices and the next state
      t.nu.get .powerUp = (s.nu.get .powerUp).raised ∧
      t.nu.get .timeInvalid =
        (if s.sps.time.valid then s.nu.get .timeInvalid else (s.nu.get .timeInvalid).raised) ∧
      t.nu.get .settingsLost = (if sound then s.nu.get .settingsLost else (s.nu.get .settingsLost).raised) ∧
      t.nu.get .totalsCorrupt =
        (if s.sj.totals.check = s.sj.checkWord then s.nu.get .totalsCorrupt
        else (s.nu.get .totalsCorrupt).raised) ∧
      t.nu.get .fpLocked =
        (if s.sj.totals.check = s.sj.checkWord then s.nu.get .fpLocked
        else ((s.nu.get .fpLocked).raisedFor .fp1).raisedFor .fp2) ∧
      t.nu.get .powerFreeze =
        (if s.sps.warning = true ∨ s.sps.warnedInRecovery = true then (s.nu.get .powerFreeze).raised
        else s.nu.get .powerFreeze) ∧
      t.nu.get .siteState =
        (if t.sps.wantedOpen then s.nu.get .siteState else (s.nu.get .siteState).raised) ∧
      (∀ k, k ≠ .powerUp → k ≠ .timeInvalid → k ≠ .settingsLost → k ≠ .totalsCorrupt → k ≠ .fpLocked →
        k ≠ .powerFreeze → k ≠ .siteState → t.nu.get k = s.nu.get k) ∧
      t.sps.warnedInRecovery = false ∧ t.sps.wantedOpen =
        (t.sps.schedule.auto && s.sps.time.valid && t.sps.schedule.openAt s.sps.time) ∧
      t.sps.time = s.sps.time ∧
      t.sps.seq =
        (if t.sps.wantedOpen then if s.sps.warning then .frozen else .waking else .night) ∧
      (t.sps.seq = .frozen → t.sps.frozenFrom = .waking ∧ t.sps.resume = .w1)

/-! ### Meters -/

/-- From R1, R2 and R5: a change of level with the pulser supply off changes nothing but the line; one within 20 µs of
the last accepted edge, or one to the filtered level, only counts as noise, up to 65535; one accepted on a FAULTY
meter only moves the filtered level and its edge time. Beside that, `elapsed` µs pass (assumption 4). The 20 µs are
measured as the difference of two clock values modulo 2^32 (the model's reading, assumption 39), and a row to the
level the line already has counts as a change (the model's choice, assumption 60). -/
def Obligations.EdgesThatDecideNothing : Prop :=
  ∀ (m : Meter) (i : Channel) (level : Bool) (elapsed : BitVec 32) (s u : State), s.resetHeld = none →
    u = (s.advance elapsed.toNat).withPins ((s.advance elapsed.toNat).pins.withLine m i level) →
    (s.sps.pulserSupply = false → exec (.meterInputEdge m i level elapsed) s = .next u) ∧
    (s.sps.pulserSupply = true →
      ((u.miu.clock - (u.meter m).lastEdge i).toNat < 20 ∨ level = (u.meter m).level i →
        exec (.meterInputEdge m i level elapsed) s =
          .next (u.setMeter m { u.meter m with noise := min 65535 ((u.meter m).noise + 1) })) ∧
      (20 ≤ (u.miu.clock - (u.meter m).lastEdge i).toNat → level ≠ (u.meter m).level i →
        (u.meter m).faulty = true →
        exec (.meterInputEdge m i level elapsed) s =
          .next (u.setMeter m
            (match i with
            | .a => { u.meter m with levelA := level, lastEdgeA := u.miu.clock }
            | .b => { u.meter m with levelB := level, lastEdgeB := u.miu.clock }))))

/-- From R3, R7, R9, R12 to R17 and R171: a forward pulse with no backlash outside a sale: the totalizer and the
unassigned volume grow by CF, saturating; the rate bin grows; creep grows in OPEN, once over 100 mL raising METER_CREEP;
the creep watch of W4 counts, raising METER_CREEP at 11; NIGHT_FLOW is raised in NIGHT; the audit sampler takes the
pulse if audit is enabled for its meter. The check word goes on matching the block unless the totals are corrupt. Nothing
else of the part changes: of the meter only the items named, of the journal only the totals, no other meter, no other
notice, and no other block. The time passed, the clock differences and a row to the level the line has are the model's reading (assumptions 4, 39 and 60). -/
def Obligations.ForwardPulseOutsideSaleIsUnassigned : Prop :=
  ∀ (m : Meter) (elapsed : BitVec 32) (s u : State) (since cf : Nat),
    u = (s.advance elapsed.toNat).withPins ((s.advance elapsed.toNat).pins.withLine m .a true) →
    since = (u.miu.clock - (s.meter m).lastForward).toNat → cf = s.sus.image.cf.get m →
    s.resetHeld = none → s.sps.pulserSupply = true → (s.meter m).faulty = false → (s.meter m).levelA = false →
    (s.meter m).levelB = false → (s.meter m).backlash = 0 → (s.meter m).aRun < 5 →
    20 ≤ (u.miu.clock - (s.meter m).lastEdgeA).toNat → s.inSale m.fp = false →
    ∃ t, exec (.meterInputEdge m .a true elapsed) s = .next t ∧
      t.sj.totals =
        { s.sj.totals with
          meterVolume := s.sj.totals.meterVolume.set m
            (min 18446744073709551615 (s.sj.totals.meterVolume.get m + cf))
          unassigned := s.sj.totals.unassigned.set m
            (min 18446744073709551615 (s.sj.totals.unassigned.get m + cf)) } ∧
      t.sj = { s.sj with
        totals := t.sj.totals, checkWord := if s.sj.totalsCorrupt then s.sj.checkWord else t.sj.totals.check } ∧
      t.meter m = { u.meter m with
        levelA := true
        lastEdgeA := u.miu.clock
        aRun := (s.meter m).aRun + 1
        bRun := 0
        lastForward := u.miu.clock
        lastBRise := none
        recent := true
        recentTimer := some 10000000
        bin0 := min 4294967295 ((s.meter m).bin0 + cf)
        creep := (s.meter m).creep + (if s.sps.seq = .opened then cf else 0)
        creepRaised := (t.meter m).creepRaised
        watchCount := (s.meter m).watchCount + (if s.sps.stage = .w4 then 1 else 0) } ∧
      ((t.meter m).creepRaised = true ↔
        (s.meter m).creepRaised = true ∨ (s.sps.seq = .opened ∧ 100000000 < (s.meter m).creep + cf)) ∧
      (s.sps.stage ≠ .w4 → t.nu.get .meterCreep =
        if s.sps.seq = .opened ∧ (s.meter m).creepRaised = false ∧ 100000000 < (s.meter m).creep + cf then
          (s.nu.get .meterCreep).raisedFor m.fp
        else s.nu.get .meterCreep) ∧
      (s.sps.seq ≠ .opened → t.nu.get .meterCreep =
        if s.sps.stage = .w4 ∧ (s.meter m).watchCount = 10 then (s.nu.get .meterCreep).raisedFor m.fp
        else s.nu.get .meterCreep) ∧
      (t.nu.get .nightFlow =
        if s.sps.seq = .night then (s.nu.get .nightFlow).raisedFor m.fp else s.nu.get .nightFlow) ∧
      (∀ k, k ≠ .meterCreep → k ≠ .nightFlow → t.nu.get k = s.nu.get k) ∧
      ((s.sus.image.auditEnable && s.sus.image.auditMeters.get m) = false →
        t.miu = { u.miu with meters := t.miu.meters }) ∧
      ((s.sus.image.auditEnable && s.sus.image.auditMeters.get m) = true →
        t.miu.sampledFrom s.miu s.sus.image.sac
          { meter := m
            time := s.sps.time
            interval := if (s.meter m).recent then since else 0
            phase := (match (s.meter m).recent, (s.meter m).lastBRise with
              | true, some b => min 255 (256 * (b - (s.meter m).lastForward).toNat / since)
              | _, _ => 0)
            seq := none
            cause := if (s.meter m).recent then .noSale else .first }) ∧
      (∀ k, k ≠ m → t.meter k = u.meter k) ∧ t.miu.clock = u.miu.clock ∧ t.miu.binTimer = u.miu.binTimer ∧
      t = { u with nu := t.nu, miu := t.miu, sj := t.sj }

/-- From R9, R14 to R17, R19, R22 to R25, R28, R30, R35 to R37, R59 and R60: a forward pulse with no backlash in a sale
adds CF to the totalizer and to the accumulator of its product, and to no unassigned volume; V is the whole millilitres
of the total up to 999,999, SATURATED once they would be more, and M is V × P rounded half up to whole cents; the entry
takes the figures and the flag, and the main display is to show M and V in centilitres, a field dirty where it differs
from the verified value. The audit sampler takes the pulse, and a
regular train raises AUDIT_REGULAR. In STARTING no more follows, in STOPPING the run-out timer starts again. In FUELING
the blend window grows; full, it corrects the duties of a blend, and its check can flag or stop the sale. Then phase
FAST goes to SLOW at the slow point with the duties scaled, the valves close at the close point, in TOPUP at the target,
and a sale that goes on starts its no-flow time again. The time passed, the clock differences and a row to the level
the line has are the model's reading (assumptions 4, 39 and 60). -/
def Obligations.ForwardPulseInSaleIsCharged : Prop :=
  ∀ (m : Meter) (elapsed : BitVec 32) (s u : State) (r : Sale) (a : Auth) (since cf dl dh cap err hl hh kl kh : Nat)
    (step : Int) (full blend slow : Bool) (audited : List Sample),
    u = (s.advance elapsed.toNat).withPins ((s.advance elapsed.toNat).pins.withLine m .a true) →
    since = (u.miu.clock - (s.meter m).lastForward).toNat → cf = s.sus.image.cf.get m →
    s.resetHeld = none → s.sps.pulserSupply = true → (s.meter m).faulty = false → (s.meter m).levelA = false →
    (s.meter m).levelB = false → (s.meter m).backlash = 0 → (s.meter m).aRun < 5 →
    20 ≤ (u.miu.clock - (s.meter m).lastEdgeA).toNat → s.inSale m.fp = true → (s.fp m.fp).sale = some r →
    (s.fp m.fp).auth = some a →
    ∃ t r', exec (.meterInputEdge m .a true elapsed) s = .next t ∧ (t.fp m.fp).sale = some r' ∧
      r'.accL = r.accL + (if m.product = .low then cf else 0) ∧
      r'.accH = r.accH + (if m.product = .high then cf else 0) ∧
      r'.volume = min 999999 ((r'.accL + r'.accH) / 1000000) ∧ r'.volumeCl = r'.volume / 10 ∧
      r'.money = (r'.volume * r.price + 5000) / 10000 ∧ r'.price = r.price ∧ r'.target = r.target ∧
      r'.grade = r.grade ∧ r'.limit = r.limit ∧
      (r'.flags.saturated = true ↔ r.flags.saturated = true ∨ 999999 < (r'.accL + r'.accH) / 1000000) ∧
      t.sj.totals =
        { s.sj.totals with
          meterVolume := s.sj.totals.meterVolume.set m
            (min 18446744073709551615 (s.sj.totals.meterVolume.get m + cf)) } ∧
      (∀ i, i ≠ a.slot → t.sj.slot i = s.sj.slot i) ∧
      (∀ e x, s.sj.slot a.slot = some e → e.sale = some x →
        ∃ e', t.sj.slot a.slot = some e' ∧ e'.seq = e.seq ∧ e'.state = e.state ∧
          e'.flags.saturated = (e.flags.saturated || r'.flags.saturated) ∧
          e'.sale = some { x with
            volume := r'.volume, money := r'.money, accL := r'.accL / 1000000, accH := r'.accH / 1000000 }) ∧
      -- the main display
      (t.field m.fp.main .f1).wanted = .number r'.money ∧ (t.field m.fp.main .f2).wanted = .number r'.volumeCl ∧
      t.field m.fp.main .f3 = s.field m.fp.main .f3 ∧ (∀ k, k ≠ m.fp.main → t.module k = s.module k) ∧
      (s.dbc.blanked = false → (s.module m.fp.main).stage ≠ .pattern → (∀ w, s.dbc.bus ≠ .busy w) →
        (t.field m.fp.main .f1).dirty = ((s.field m.fp.main .f1).dirty ||
          decide ((s.field m.fp.main .f1).verified ≠ some (wantedCodes m.fp.main .f1 (.number r'.money)))) ∧
        (t.field m.fp.main .f2).dirty = ((s.field m.fp.main .f2).dirty ||
          decide ((s.field m.fp.main .f2).verified ≠ some (wantedCodes m.fp.main .f2 (.number r'.volumeCl))))) ∧
      t.fp m.fp.other = u.fp m.fp.other ∧ t.riu = u.riu ∧ t.psg = u.psg ∧ t.clp = u.clp ∧ t.sus = u.sus ∧
      -- the audit sampler
      ((s.sus.image.auditEnable && s.sus.image.auditMeters.get m) = false →
        t.miu = { u.miu with meters := t.miu.meters } ∧ t.nu.get .auditRegular = s.nu.get .auditRegular) ∧
      ((s.sus.image.auditEnable && s.sus.image.auditMeters.get m) = true →
        t.miu.sampledFrom s.miu s.sus.image.sac
          { meter := m
            time := s.sps.time
            interval := if (s.meter m).recent then since else 0
            phase := (match (s.meter m).recent, (s.meter m).lastBRise with
              | true, some b => min 255 (256 * (b - (s.meter m).lastForward).toNat / since)
              | _, _ => 0)
            seq := some a.seq
            cause :=
              if (s.meter m).recent = false then .first
              else if (s.fp m.fp).state ≠ .fueling then .runOut
              else if r.phase = some .fast then .fast
              else .slow } ∧
          (t.miu.newest = s.miu.newest → t.nu.get .auditRegular = s.nu.get .auditRegular) ∧
          (t.miu.newest = s.miu.newest + 1 →
            audited = (((List.range t.miu.count).filterMap
              (fun k => t.miu.ring.get (t.miu.newest - Fin.ofNat 16 k))).filter (fun x => x.meter = m)).take 8 →
            t.nu.get .auditRegular =
              if audited.length = 8 ∧ (∀ x ∈ audited, x.cause = .fast) ∧
                  (∀ x ∈ audited, ∀ y ∈ audited, x.interval ≤ y.interval + 2) then
                (s.nu.get .auditRegular).raisedFor m.fp
              else s.nu.get .auditRegular)) ∧
      -- STARTING and STOPPING
      ((s.fp m.fp).state = .starting → t.fp m.fp = { u.fp m.fp with sale := some r' }) ∧
      ((s.fp m.fp).state = .stopping →
        t.fp m.fp = { u.fp m.fp with sale := some r', runOutTimer := some (s.sus.image.runOut * 1000) }) ∧
      -- FUELING
      ((s.fp m.fp).state = .fueling → r.phase ≠ none →
        dl = r.deltaL + (if m.product = .low then cf else 0) →
        dh = r.deltaH + (if m.product = .high then cf else 0) →
        full = decide (s.sus.image.window * 1000000 ≤ dl + dh) → blend = decide (0 < r.t ∧ r.t < 1000) →
        step = (((r.t : Int) - (dh * 1000 / (dh + dl) : Nat)) * (s.sus.image.gain : Int)).tdiv 16 →
        cap = (if r.phase = some .fast then s.sus.image.fastDuty else s.sus.image.slowDuty) →
        hh = (if full && blend then (min (cap : Int) (max 50 ((r.dutyH : Int) + step))).toNat else r.dutyH) →
        hl = (if full && blend then (min (cap : Int) (max 50 ((r.dutyL : Int) - step))).toNat else r.dutyL) →
        err = ((r'.accH * 1000 / (r'.accL + r'.accH) : Nat) - (r.t : Int)).natAbs →
        r'.deltaL = (if full then 0 else dl) ∧ r'.deltaH = (if full then 0 else dh) ∧
        (r'.flags.blendDev = true ↔ r.flags.blendDev = true ∨
          (full = true ∧ 2000000000 ≤ r'.accL + r'.accH ∧ s.sus.image.bt1 < err)) ∧
        (full = true ∧ 2000000000 ≤ r'.accL + r'.accH ∧ s.sus.image.bt2 < err →
          (t.fp m.fp).state = .stopping ∧ (t.fp m.fp).stopCause = some .blendFault ∧ (t.fp m.fp).valvesShut ∧
            r'.heldPhase = r.phase ∧ r'.heldL = hl ∧ r'.heldH = hh ∧ r'.dutyL = 0 ∧ r'.dutyH = 0) ∧
        (¬ (full = true ∧ 2000000000 ≤ r'.accL + r'.accH ∧ s.sus.image.bt2 < err) →
          slow = decide (r.phase = some .fast ∧ r.slowPoint ≤ r'.volume) →
          kl = (if slow then
            if hl = 0 then 0 else max (if blend then 50 else 1) (hl * s.sus.image.slowDuty / s.sus.image.fastDuty)
            else hl) →
          kh = (if slow then
            if hh = 0 then 0 else max (if blend then 50 else 1) (hh * s.sus.image.slowDuty / s.sus.image.fastDuty)
            else hh) →
          (r'.volume < (if r.phase = some .topUp then r.target else r.closePoint) →
            (t.fp m.fp).state = .fueling ∧ (t.fp m.fp).stopCause = (s.fp m.fp).stopCause ∧
              r'.phase = (if slow then some .slow else r.phase) ∧ r'.dutyL = kl ∧ r'.dutyH = kh ∧
              (t.fp m.fp).noFlowTimer =
                some (if r.phase = some .topUp then 5000000 else s.sus.image.noFlow * 1000000)) ∧
          ((if r.phase = some .topUp then r.target else r.closePoint) ≤ r'.volume →
            (t.fp m.fp).state = .stopping ∧ (t.fp m.fp).valvesShut ∧
              (t.fp m.fp).stopCause =
                (if r.phase = some .topUp ∨ r.closeKind = .preset then some .preset else some .ceiling) ∧
              (t.fp m.fp).runOutTimer = some (s.sus.image.runOut * 1000) ∧ (t.fp m.fp).noFlowTimer = none ∧
              r'.heldPhase = (if slow then some .slow else r.phase) ∧ r'.heldL = kl ∧ r'.heldH = kh ∧
              r'.dutyL = 0 ∧ r'.dutyH = 0 ∧
              (r.phase ≠ some .topUp → r.closeKind = .preset → r'.presetClosed = true))))

/-- From R7 and R8: with backlash above 0 a forward pulse repays one unit and credits nothing; a reverse pulse adds
one unit in a sale while backlash is below 20, and outside a sale only counts in the reverse count. The time passed,
the clock differences and a row to the level the line has are the model's reading (assumptions 4, 39 and 60). -/
def Obligations.BacklashIsRepaidBeforeCredit : Prop :=
  ∀ (m : Meter) (elapsed : BitVec 32) (s u : State),
    u = (s.advance elapsed.toNat).withPins ((s.advance elapsed.toNat).pins.withLine m .a true) →
    s.resetHeld = none → s.sps.pulserSupply = true → (s.meter m).faulty = false → (s.meter m).levelA = false →
    (s.meter m).aRun < 5 → 20 ≤ (u.miu.clock - (s.meter m).lastEdgeA).toNat →
    ∃ t, exec (.meterInputEdge m .a true elapsed) s = .next t ∧
      ((s.meter m).levelB = false → 0 < (s.meter m).backlash →
        (t.meter m).backlash = (s.meter m).backlash - 1 ∧ (t.meter m).lastForward = u.miu.clock ∧ t.sj = s.sj ∧
          t.fpc = u.fpc ∧ t.nu = s.nu) ∧
      ((s.meter m).levelB = true → s.inSale m.fp = true → (s.meter m).backlash < 20 →
        (t.meter m).backlash = (s.meter m).backlash + 1 ∧ (t.meter m).reverse = (s.meter m).reverse ∧ t.sj = s.sj ∧
          t.fpc = u.fpc ∧ t.nu = s.nu) ∧
      ((s.meter m).levelB = true → s.inSale m.fp = false →
        (t.meter m).backlash = (s.meter m).backlash ∧
          (t.meter m).reverse = min 65535 ((s.meter m).reverse + 1) ∧ t.sj = s.sj ∧ t.fpc = u.fpc ∧ t.nu = s.nu) ∧
      ((s.meter m).levelB = true → s.inSale m.fp = true → 20 ≤ (s.meter m).backlash →
        (t.meter m).faulty = true ∧ (t.meter m).cause = .reverse ∧
          (t.meter m).backlash = (s.meter m).backlash ∧ (t.nu.get .meterFault).pending = true)

/-- From R3, R4, R5 and R8: the edge that takes the run of an input to 6 with no edge of the other makes the meter
FAULTY, the other channel lost: six edges of B give CHANNEL_A; six rises of A give CHANNEL_B, the pulse of the sixth
decided first. The fault raises METER_FAULT, an idle fueling point is LOCKED with METER, and a sale in STARTING ends
METER_FAULT and locks it, its demand withdrawn (R56, R61, R62). The time passed, the clock differences and a row to
the level the line has are the model's reading (assumptions 4, 39 and 60). -/
def Obligations.LostChannelLocksFuelingPoint : Prop :=
  ∀ (m : Meter) (level : Bool) (elapsed : BitVec 32) (s u v : State),
    u = (s.advance elapsed.toNat).withPins ((s.advance elapsed.toNat).pins.withLine m .b level) →
    v = (s.advance elapsed.toNat).withPins ((s.advance elapsed.toNat).pins.withLine m .a true) →
    s.resetHeld = none → s.sps.pulserSupply = true → (s.meter m).faulty = false → s.sps.seq ≠ .closing →
    ((s.fp m.fp).state = .idle → (s.meter m).levelB = !level → 20 ≤ (u.miu.clock - (s.meter m).lastEdgeB).toNat → (s.meter m).bRun = 5 →
      ∃ t, exec (.meterInputEdge m .b level elapsed) s = .next t ∧ (t.meter m).faulty = true ∧
        (t.meter m).cause = .channelA ∧ (t.meter m).bRun = 6 ∧ (t.meter m).aRun = 0 ∧
        (t.nu.get .meterFault).pending = true ∧ (t.nu.get .meterFault).fps.get m.fp = true ∧
        (t.fp m.fp).state = .locked ∧ (t.fp m.fp).lockCauses = ⟨true, false, false, false⟩ ∧
        (t.nu.get .fpLocked).pending = true ∧ t.sj = s.sj ∧ t.fp m.fp.other = u.fp m.fp.other) ∧
    ((s.fp m.fp).state = .idle → (s.meter m).levelA = false → 20 ≤ (v.miu.clock - (s.meter m).lastEdgeA).toNat → (s.meter m).aRun = 5 →
      ∃ t, exec (.meterInputEdge m .a true elapsed) s = .next t ∧ (t.meter m).faulty = true ∧
        (t.meter m).cause = .channelB ∧ (t.meter m).aRun = 6 ∧ (t.meter m).bRun = 0 ∧
        ((s.meter m).levelB = false → (s.meter m).backlash = 0 →
          (t.meter m).lastForward = v.miu.clock ∧ t.sj.slots = s.sj.slots ∧
          t.sj.totals =
            { s.sj.totals with
              meterVolume := s.sj.totals.meterVolume.set m
                (min 18446744073709551615 (s.sj.totals.meterVolume.get m + s.sus.image.cf.get m))
              unassigned := s.sj.totals.unassigned.set m
                (min 18446744073709551615 (s.sj.totals.unassigned.get m + s.sus.image.cf.get m)) }) ∧
        ((s.meter m).levelB = false → 0 < (s.meter m).backlash →
          (t.meter m).backlash = (s.meter m).backlash - 1 ∧ t.sj = s.sj) ∧
        ((s.meter m).levelB = true → (t.meter m).reverse = min 65535 ((s.meter m).reverse + 1) ∧ t.sj = s.sj) ∧
        (t.nu.get .meterFault).pending = true ∧ (t.nu.get .meterFault).fps.get m.fp = true ∧
        (t.fp m.fp).state = .locked ∧ (t.fp m.fp).lockCauses = ⟨true, false, false, false⟩ ∧
        (t.nu.get .fpLocked).pending = true ∧ t.fp m.fp.other = v.fp m.fp.other) ∧
    (∀ r a, (s.fp m.fp).state = .starting → (s.fp m.fp).sale = some r → (s.fp m.fp).auth = some a →
      (s.meter m).levelB = !level → 20 ≤ (u.miu.clock - (s.meter m).lastEdgeB).toNat → (s.meter m).bRun = 5 →
      ∃ t, exec (.meterInputEdge m .b level elapsed) s = .next t ∧ (t.meter m).faulty = true ∧
        (t.meter m).cause = .channelA ∧ s.endsFromStarting t m.fp r a .meterFault ∧
        (t.fp m.fp).state = .locked ∧ (t.fp m.fp).lockCauses.meter = true ∧
        (t.nu.get .meterFault).pending = true ∧ (t.nu.get .fpLocked).pending = true ∧
        (∀ p, (t.pump p).demand = (s.pump p).demand - (if needsPump r.t p then 1 else 0)) ∧
        t.fp m.fp.other = u.fp m.fp.other)

/-- From R10 and R11: the rate bins age by one place every 250 ms; a meter's recent flag clears at its expiry. -/
def Obligations.MeterTimersExpire : Prop :=
  ∀ s : State, s.resetHeld = none →
    exec .rateBinTimerExpiry s =
      .next { s with
        miu := { s.miu with
          binTimer := some 250000
          meters := s.miu.meters.map (fun c =>
            { c with bin0 := 0, bin1 := c.bin0, bin2 := c.bin1, bin3 := c.bin2 }) } } ∧
    ∀ m, (s.meter m).recentTimer.isSome →
      exec (.recentFlagExpiry m) s =
        .next (s.setMeter m { s.meter m with recent := false, recentTimer := none })

/-- From R24 and R26: the target of a MONEY limit is the least volume whose money reaches it, capped at 999,999 mL: it
is never above 999,999 mL, and 999,999 mL when no smaller volume reaches the amount. The target of a VOLUME limit is
ten times its centilitres, that of NONE is 999,999, and the close kind is CEILING for 999,999 and PRESET otherwise. -/
def Obligations.MoneyTargetIsLeastVolume : Prop :=
  ∀ (cents price v : Nat), 1 ≤ cents → 1 ≤ price →
    targetOf (.money cents) price ≤ 999999 ∧
    (targetOf (.money cents) price < 999999 →
      cents ≤ (targetOf (.money cents) price * price + 5000) / 10000) ∧
    (v < targetOf (.money cents) price → (v * price + 5000) / 10000 < cents) ∧
    ((∀ w, w < 999999 → (w * price + 5000) / 10000 < cents) → targetOf (.money cents) price = 999999) ∧
    (∀ cl, targetOf (.volume cl) price = cl * 10) ∧ targetOf .none price = 999999 ∧
    ∀ target, closeKindOf target = (if target = 999999 then .ceiling else .preset)

/-! ### Fueling points: pins and timers -/

/-- From R38 and R39: at the end of a high interval of a valve the low one follows unless the duty is 1000; at a
period's end the sale's latest duty is loaded, and a duty of 0 leaves the output low. Outside FUELING the duty is 0.
-/
def Obligations.ValvePeriodsFollowTheDuty : Prop :=
  ∀ (f : Fp) (s : State) (low high : Nat) (x : ValvePeriod), s.resetHeld = none →
    low = (match (s.fp f).state, (s.fp f).sale with
      | .fueling, some r => r.dutyL
      | _, _ => 0) →
    high = (match (s.fp f).state, (s.fp f).sale with
      | .fueling, some r => r.dutyH
      | _, _ => 0) →
    ((s.fp f).valveL = some x →
      exec (.valveIntervalExpiry f .low) s = .next (s.setFp f { s.fp f with
        valveL :=
          if x.high = true ∧ 0 < (1000 - x.duty) * s.sus.image.valvePeriod then
            some { x with high := false, left := some ((1000 - x.duty) * s.sus.image.valvePeriod) }
          else if low = 0 then none
          else some ⟨low, true, some (low * s.sus.image.valvePeriod)⟩ })) ∧
    ((s.fp f).valveH = some x →
      exec (.valveIntervalExpiry f .high) s = .next (s.setFp f { s.fp f with
        valveH :=
          if x.high = true ∧ 0 < (1000 - x.duty) * s.sus.image.valvePeriod then
            some { x with high := false, left := some ((1000 - x.duty) * s.sus.image.valvePeriod) }
          else if high = 0 then none
          else some ⟨high, true, some (high * s.sus.image.valvePeriod)⟩ }))

/-- From R44: a change of a nozzle switch changes no nozzle position; a position that differs from the one in the
context begins its 50 ms, and a return to it within them ends them. -/
def Obligations.NozzleSwitchIsDebounced : Prop :=
  ∀ (f : Fp) (n : Nozzle) (up : Bool) (s : State),
    exec (.nozzleSwitchChange f n up) s =
      .next { s with
        pins := { s.pins with
          switchUp := s.pins.switchUp.set f ((s.pins.switchUp.get f).set n up)
          debounce := s.pins.debounce.set f ((s.pins.debounce.get f).set n
            (if up = (s.fp f).nozzleUp.get n then none else some 50000)) } }

/-- From R44 and R62: a lift in IDLE moves the fueling point to CALLING; in CALLING the waiting condition is
NOZZLE_CONFLICT while two or more nozzles are up, and a hang that leaves none up moves it to IDLE. In ENDED a hang of
the sale nozzle moves it to IDLE or CALLING in the same way; any other move there, and every move in CLOSED and
LOCKED, changes the nozzle positions alone. Nothing but the fueling point and the switch's own pins changes. -/
def Obligations.LiftsAndHangsOutsideSales : Prop :=
  ∀ (f : Fp) (n : Nozzle) (up : Bool) (s u : State) (c d : Fpc), s.resetHeld = none →
    (s.fp f).nozzleUp.get n = !up →
    u = s.withPins { s.pins with
      switchUp := s.pins.switchUp.set f ((s.pins.switchUp.get f).set n up)
      debounce := s.pins.debounce.set f ((s.pins.debounce.get f).set n none) } →
    d = { s.fp f with nozzleUp := (s.fp f).nozzleUp.set n up } → c = { d with saleNozzle := none } →
    ((s.fp f).state = .idle ∨ (s.fp f).state = .calling ∨
        ((s.fp f).state = .ended ∧ up = false ∧ (s.fp f).saleNozzle = some n) → s.sps.seq ≠ .closing →
      exec (if up then .nozzleLift f n else .nozzleHang f n) s =
        .next (u.setFp f
          (match c.upList.length with
          | 0 => { c with state := .idle, waiting := .none }
          | 1 => { c with state := .calling, waiting := .none }
          | _ => { c with state := .calling, waiting := .nozzleConflict }))) ∧
    ((s.fp f).state = .closed ∨ (s.fp f).state = .locked ∨
        ((s.fp f).state = .ended ∧ (up = true ∨ (s.fp f).saleNozzle ≠ some n)) →
      exec (if up then .nozzleLift f n else .nozzleHang f n) s = .next (u.setFp f d))

/-- From R28, R57 and R59: a FUELING sale whose nozzle is hung, or whose no-flow timer runs out, stops: the valves
shut at once, the duties go to 0 with the phase and duties held, the run-out timer starts and the no-flow timer stops. A
hang of the sale nozzle in STARTING ends the sale at once with NOZZLE_HUNG, its demand withdrawn (R56, R62). -/
def Obligations.FuelingSaleStops : Prop :=
  ∀ (f : Fp) (n : Nozzle) (s : State) (r : Sale), s.resetHeld = none → (s.fp f).sale = some r →
    ((s.fp f).state = .fueling → (s.fp f).noFlowTimer.isSome →
      exec (.noFlowExpiry f) s = .next (s.setFp f { s.fp f with
        state := .stopping, stopCause := some .noFlow, noFlowTimer := none
        runOutTimer := some (s.sus.image.runOut * 1000), valveL := none, valveH := none
        sale := some { r with heldPhase := r.phase, heldL := r.dutyL, heldH := r.dutyH, dutyL := 0, dutyH := 0 } })) ∧
    ((s.fp f).state = .fueling → (s.fp f).saleNozzle = some n → (s.fp f).nozzleUp.get n = true →
      ∃ t, exec (.nozzleHang f n) s = .next t ∧ (t.fp f).state = .stopping ∧ (t.fp f).stopCause = some .nozzleHung ∧
        (t.fp f).nozzleUp.get n = false ∧ (t.fp f).valvesShut ∧
        (t.fp f).runOutTimer = some (s.sus.image.runOut * 1000) ∧ (t.fp f).noFlowTimer = none ∧
        (t.fp f).sale =
          some { r with heldPhase := r.phase, heldL := r.dutyL, heldH := r.dutyH, dutyL := 0, dutyH := 0 } ∧
        (t.fp f).auth = (s.fp f).auth ∧ t.fp f.other = s.fp f.other ∧ t.sj = s.sj ∧ t.nu = s.nu ∧ t.psg = s.psg ∧
        t.riu = s.riu ∧ t.sps = s.sps ∧ t.dbc = s.dbc ∧ t.pru = s.pru ∧ t.miu = s.miu ∧ t.clp = s.clp) ∧
    (∀ a, (s.fp f).state = .starting → (s.fp f).auth = some a → (s.fp f).saleNozzle = some n →
      (s.fp f).nozzleUp.get n = true →
      ∃ t, exec (.nozzleHang f n) s = .next t ∧ s.endsFromStarting t f r a .nozzleHung ∧
        (t.fp f).nozzleUp = (s.fp f).nozzleUp.set n false ∧
        (∀ p, (t.pump p).demand = (s.pump p).demand - (if needsPump r.t p then 1 else 0)) ∧
        (s.sps.seq ≠ .closing → t.fp f.other = s.fp f.other) ∧ t.clp = s.clp ∧ t.sus = s.sus)

/-- From R48, R49 and R146: the expiry of an ARMED authorization drops it: its slot is FREE, the fueling point holds
no authorization and is CLOSED, IDLE or CALLING, AUTH_ENDED is raised, and the totals and the next sequence number are
untouched. A control-owned one sends the reader nothing; a reader-owned one offers AUTH_ENDED. -/
def Obligations.ExpiryDropsAuthorization : Prop :=
  ∀ (f : Fp) (s : State) (a : Auth), s.resetHeld = none → (s.fp f).state = .armed →
    (s.fp f).expiryTimer.isSome → (s.fp f).auth = some a → s.sps.seq ≠ .closing →
    ∃ t, exec (.authExpiry f) s = .next t ∧ (t.fp f).auth = none ∧ (t.fp f).expiryTimer = none ∧
      (t.fp f).state =
        (if (s.fp f).closedCauses.any then .closed else if (s.fp f).upList.isEmpty then .idle else .calling) ∧
      (∀ i, t.sj.slot i = if i = a.slot then none else s.sj.slot i) ∧ t.sj.nextSeq = s.sj.nextSeq ∧
      t.sj.totals = s.sj.totals ∧ t.nu.get .authEnded = (s.nu.get .authEnded).raisedFor f ∧
      (a.owner = .control → t.riu = s.riu) ∧
      (a.owner = .reader → s.riu.link = .active → s.riu.queue.length < 8 →
        t.riu.queue = s.riu.queue ++ [.frame (.authEnded f a.seq .expired)]) ∧
      t.fp f.other = s.fp f.other ∧ t.psg = s.psg ∧ t.sps = s.sps ∧ t.miu = s.miu ∧ t.dbc = s.dbc ∧ t.clp = s.clp

/-- From R60, R62, R145 and R152: a run-out that ends with a stop cause other than PRESET ends the sale: the entry is
UNSETTLED with the final figures, the end time and the reason, the grade and the sale count take the sale, the demand
is withdrawn, SALE_DONE is raised, and the fueling point holds no authorization and is LOCKED, CLOSED, ENDED, IDLE or
CALLING. In CLOSING, with the other fueling point neither ARMED nor in a sale, the end of this last sale passes the
shutting test (R166): the sequencer enters SHUTTING, both fueling points are CLOSED or LOCKED, and a pump whose only
demand this was is OFF, with the settle time of S1 running (R69, R74, R167). -/
def Obligations.RunOutEndsTheSale : Prop :=
  ∀ (f : Fp) (s : State) (r : Sale) (a : Auth) (cause : StopCause), s.resetHeld = none →
    (s.fp f).state = .stopping → (s.fp f).runOutTimer.isSome → (s.fp f).sale = some r → (s.fp f).auth = some a →
    (s.fp f).stopCause = some cause → cause ≠ .preset →
    (s.sps.seq ≠ .closing ∨ (s.fp f.other).state = .armed ∨ s.inSale f.other = true →
      ∃ t, exec (.runOutExpiry f) s = .next t ∧ t.sps.seq = s.sps.seq ∧
      (∀ e, s.sj.slot a.slot = some e → ∃ e', t.sj.slot a.slot = some e' ∧ e'.state = .unsettled ∧ e'.seq = e.seq ∧
        e'.owner = e.owner ∧ e'.token = e.token ∧ e'.ended = some (s.sps.time, cause.endReason) ∧
        e'.sale = e.sale.map (fun x => { x with
          volume := r.volume, money := r.money, accL := r.accL / 1000000, accH := r.accH / 1000000 })) ∧
      (∀ i, i ≠ a.slot → t.sj.slot i = s.sj.slot i) ∧
      t.sj.totals =
        { s.sj.totals with
          gradeVolume := s.sj.totals.gradeVolume.set r.grade
            (min 18446744073709551615 (s.sj.totals.gradeVolume.get r.grade + r.volume))
          gradeMoney := s.sj.totals.gradeMoney.set r.grade
            (min 18446744073709551615 (s.sj.totals.gradeMoney.get r.grade + r.money))
          saleCount := s.sj.totals.saleCount.set f (min 4294967295 (s.sj.totals.saleCount.get f + 1)) } ∧
      t.sj.anticipation = s.sj.anticipation ∧
      (∀ p, (t.pump p).demand = (s.pump p).demand - (if needsPump r.t p then 1 else 0)) ∧
      (t.nu.get .saleDone).pending = true ∧ (t.nu.get .saleDone).fps.get f = true ∧
      (t.fp f).auth = none ∧ (t.fp f).stopCause = none ∧ (t.fp f).lastEnd = some cause.endReason ∧
      (t.fp f).valvesShut ∧
      (t.fp f).state =
        (if (((cause.endReason.lockCauses).union (s.fp f).noted).any || (s.fp f).lockAfterSale) = true then .locked
        else if (s.fp f).closedCauses.any then .closed
        else if (s.fp f).saleNozzleUp then .ended
        else if (s.fp f).upList.isEmpty then .idle
        else .calling) ∧
      t.fp f.other = s.fp f.other) ∧
    (s.sps.seq = .closing → (s.fp f.other).state ≠ .armed → s.inSale f.other = false → s.sps.domain ≠ .off →
      ∃ t, exec (.runOutExpiry f) s = .next t ∧ s.saleEnded t f r a cause.endReason ∧ t.shutsFrom s ∧
        (t.fp f).state = (if s.endLocks f cause.endReason = true then .locked else .closed) ∧
        (t.fp f.other).state = (if (s.fp f.other).state = .locked then .locked else .closed) ∧
        (∀ p, needsPump r.t p = true → (s.pump p).state = .running → (s.pump p).demand = 1 →
          0 < s.sus.image.runOn → t.sps.stage = .s1 ∧ (t.pump p).state = .off) ∧
        t.sj.totals.saleCount.get f = min 4294967295 (s.sj.totals.saleCount.get f + 1) ∧ t.clp = s.clp ∧
        t.sus = s.sus)

/-- From R29 to R32, R35, R60 and R153: a run-out that ends a PRESET stop. Short of its target by at most 50 mL, with
its nozzle up and never hung in the run-out, the sale re-enters FUELING once in phase TOPUP, with no anticipation, the
held duties (scaled when held in FAST) and a no-flow time of 5 s. Where one of these fails it ends PRESET_REACHED,
with the over/short figure in its entry, and with a limit its fueling point's anticipation becomes clamp(AN + trunc((V
− target) / 2), 0, 200); the other fueling point's stays. A hang of the sale nozzle in the run-out prevents the
top-up, lifted again or not (the model's reading, assumption 32). -/
def Obligations.PresetRunOutTopsUpOrLearns : Prop :=
  ∀ (f : Fp) (n : Nozzle) (s : State) (r : Sale), s.resetHeld = none → (s.fp f).state = .stopping →
    (s.fp f).runOutTimer.isSome → (s.fp f).sale = some r → (s.fp f).stopCause = some .preset →
    (r.volume < r.target → r.target ≤ r.volume + 50 → r.topUpDone = false → (s.fp f).saleNozzleUp = true →
      r.hung = false → (∀ p, (s.meter (f.meter p)).faulty = false) → s.needed r.t .running = true →
      s.sps.seq = .opened ∨ s.sps.seq = .closing →
      (s.field f.main .f1).dirtySince = none → (s.field f.main .f2).dirtySince = none →
      ∃ t r', exec (.runOutExpiry f) s = .next t ∧ (t.fp f).state = .fueling ∧ (t.fp f).stopCause = none ∧
        (t.fp f).runOutTimer = none ∧ (t.fp f).noFlowTimer = some 5000000 ∧ (t.fp f).sale = some r' ∧
        r'.phase = some .topUp ∧ r'.topUpDone = true ∧ r'.flags.toppedUp = true ∧ r'.volume = r.volume ∧
        r'.target = r.target ∧
        (r.heldPhase ≠ some .fast → r'.dutyL = r.heldL ∧ r'.dutyH = r.heldH) ∧
        (r.heldPhase = some .fast →
          r'.dutyL = (if r.heldL = 0 then 0 else max (if 0 < r.t ∧ r.t < 1000 then 50 else 1)
            (r.heldL * s.sus.image.slowDuty / s.sus.image.fastDuty)) ∧
          r'.dutyH = (if r.heldH = 0 then 0 else max (if 0 < r.t ∧ r.t < 1000 then 50 else 1)
            (r.heldH * s.sus.image.slowDuty / s.sus.image.fastDuty))) ∧
        t.sj = s.sj ∧ t.nu = s.nu ∧ t.psg = s.psg ∧ t.fp f.other = s.fp f.other ∧ t.clp = s.clp) ∧
    (∀ a, (s.fp f).auth = some a → s.sps.seq ≠ .closing →
      r.target ≤ r.volume ∨ r.volume + 50 < r.target ∨ r.topUpDone = true ∨ (s.fp f).saleNozzleUp = false ∨
        r.hung = true →
      ∃ t, exec (.runOutExpiry f) s = .next t ∧ (t.fp f).lastEnd = some .presetReached ∧ (t.fp f).auth = none ∧
        (t.fp f).state ≠ .fueling ∧
        (r.limit ≠ .none → ((t.sj.anticipation.get f : Nat) : Int) =
          min 200 (max 0 ((r.an : Int) + ((r.volume : Int) - r.target).tdiv 2))) ∧
        (r.limit = .none → t.sj.anticipation.get f = s.sj.anticipation.get f) ∧
        t.sj.anticipation.get f.other = s.sj.anticipation.get f.other ∧
        (∀ e, s.sj.slot a.slot = some e → r.overShort = none → ∃ e', t.sj.slot a.slot = some e' ∧
          e'.state = .unsettled ∧ e'.ended = some (s.sps.time, .presetReached) ∧
          e'.overShort =
            (if r.presetClosed = true ∧ r.volume < r.target then some (r.target - r.volume)
            else if r.presetClosed = true ∧ r.target < r.volume then some (r.volume - r.target)
            else none))) ∧
    ((s.fp f).saleNozzle = some n → (s.fp f).nozzleUp.get n = true →
      ∃ t, exec (.nozzleHang f n) s = .next t ∧ (t.fp f).state = .stopping ∧ (t.fp f).stopCause = some .preset ∧
        (t.fp f).sale = some { r with hung := true } ∧ (t.fp f).runOutTimer = (s.fp f).runOutTimer ∧ t.sj = s.sj)

/-- From R44, R52 to R54, R7, R21, R26, R68 to R70, R87, R144. The start check at a lift of the one permitted nozzle at an
ARMED fueling point whose meters are OK: with the prices proved and a pump it needs OFF and none FAILED it enters
STARTING: the sale registers are loaded from the authorization and the current price, the entry is ACTIVE, the
backlash of both meters is 0, the demand is registered and the main display is to show 0, 0 and P; each pump it needs
becomes QUEUED at the tail of the start queue, PUMP-L before PUMP-H, and stays so behind another pump or while the
inrush gap has not passed, and the first to join an empty queue once it has passed is STARTING with its feedback timer
running. With the prices not proved it waits in PRICE_WAIT, which a hang of that nozzle ends. With a needed pump
FAILED the sale ends at the check with reason PUMP_FAIL and V 0, no demand registered and the main display left as it
is. Other lifts: in ARMED a nozzle not permitted gives WRONG_NOZZLE, which its hang ends, and a second one
NOZZLE_CONFLICT, with no start check and the authorization and its timer as they were; in STARTING, FUELING and STOPPING
a lift of a nozzle that is not the sale nozzle sets EXTRA_NOZZLE in the registers and the entry, and its hang changes its
position alone. -/
def Obligations.LiftsInArmedAndInSales : Prop :=
  ∀ (f : Fp) (n : Nozzle) (s u w : State), s.resetHeld = none →
    u = s.withPins { s.pins with
      switchUp := s.pins.switchUp.set f ((s.pins.switchUp.get f).set n true)
      debounce := s.pins.debounce.set f ((s.pins.debounce.get f).set n none) } →
    w = s.withPins { s.pins with
      switchUp := s.pins.switchUp.set f ((s.pins.switchUp.get f).set n false)
      debounce := s.pins.debounce.set f ((s.pins.debounce.get f).set n none) } →
    -- the one permitted nozzle in ARMED
    (∀ (g : Grade) (q : GradePrice) (a : Auth) (e : Entry),
      s.sps.seq = .opened → (s.fp f).state = .armed → (s.fp f).auth = some a →
      (s.fp f).nozzleUp = ⟨false, false, false⟩ → (s.sus.image.hose.get f).get n = some g →
      s.sus.image.defined g = true → gradeIn a.grades g = true → (∀ p, (s.meter (f.meter p)).faulty = false) →
      s.sj.slot a.slot = some e →
      ((s.fp f).appliedGen = s.pru.generation → s.pru.panelVerified.get f = some s.pru.generation →
        s.pru.current.get g = some q → (∀ p, needsPump (s.sus.image.perMille g) p = true → (s.pump p).state = .off) →
        ∃ t r e' x, exec (.nozzleLift f n) s = .next t ∧ (t.fp f).state = .starting ∧ (t.fp f).saleNozzle = some n ∧
          (t.fp f).expiryTimer = none ∧ (t.fp f).auth = some a ∧ (t.fp f).sale = some r ∧ r.grade = g ∧
          r.price = (match a.level with
            | .level1 => q.level1
            | .level2 => q.level2) ∧
          r.target = targetOf a.limit r.price ∧ r.an = s.sj.anticipation.get f ∧ r.accL = 0 ∧ r.accH = 0 ∧
          r.volume = 0 ∧ r.money = 0 ∧ r.dutyL = 0 ∧ r.dutyH = 0 ∧
          t.sj.slot a.slot = some e' ∧ e'.state = .active ∧ e'.seq = e.seq ∧ e'.sale = some x ∧ x.grade = g ∧
          x.price = r.price ∧ x.generation = s.pru.generation ∧ x.target = r.target ∧ x.start = s.sps.time ∧
          (∀ p, (t.meter (f.meter p)).backlash = 0) ∧
          (∀ p, (t.pump p).demand = (s.pump p).demand + (if needsPump r.t p then 1 else 0)) ∧
          (s.psg.queue ≠ [] ∨ s.psg.sinceStart < s.sus.image.inrushGap * 1000 →
            t.psg.queue = s.psg.queue ++ [Pump.pumpL, Pump.pumpH].filter (needsPump r.t) ∧
              t.psg.sinceStart = s.psg.sinceStart ∧
              ∀ p, needsPump r.t p = true →
                t.pump p = { s.pump p with state := .queued, demand := (s.pump p).demand + 1 }) ∧
          (s.psg.queue = [] → s.sus.image.inrushGap * 1000 ≤ s.psg.sinceStart → 0 < s.sus.image.inrushGap →
            ∃ p rest, [Pump.pumpL, Pump.pumpH].filter (needsPump r.t) = p :: rest ∧ t.psg.queue = rest ∧
              t.psg.sinceStart = 0 ∧
              t.pump p = { s.pump p with
                state := .starting, demand := (s.pump p).demand + 1
                feedbackTimer := some (s.sus.image.feedback * 1000) } ∧
              ∀ q, q ∈ rest → t.pump q = { s.pump q with state := .queued, demand := (s.pump q).demand + 1 }) ∧
          (t.field f.main .f1).wanted = .number 0 ∧ (t.field f.main .f2).wanted = .number 0 ∧
          (t.field f.main .f3).wanted = .number r.price ∧ t.sps.holdTimers.get f = none ∧
          t.fp f.other = s.fp f.other ∧ t.riu = s.riu ∧ t.sj.totals = s.sj.totals ∧ t.clp = s.clp ∧ t.sus = s.sus) ∧
      ((s.fp f).appliedGen ≠ s.pru.generation ∨ s.pru.panelVerified.get f ≠ some s.pru.generation →
        ∃ v t, exec (.nozzleLift f n) s = .next v ∧
          v = u.setFp f { s.fp f with
            nozzleUp := (s.fp f).nozzleUp.set n true, waiting := .priceWait } ∧
          exec (.nozzleHang f n) v = .next t ∧ t.fp f = { s.fp f with waiting := .none } ∧ t.sj = s.sj) ∧
      ((s.fp f).appliedGen = s.pru.generation → s.pru.panelVerified.get f = some s.pru.generation →
        (∃ p, needsPump (s.sus.image.perMille g) p = true ∧ (s.pump p).state = .failed) →
        ∃ t e' x, exec (.nozzleLift f n) s = .next t ∧ (t.fp f).lastEnd = some .pumpFail ∧ (t.fp f).auth = none ∧
          (t.fp f).saleNozzle = (if (t.fp f).state = .ended then some n else none) ∧ (t.fp f).expiryTimer = none ∧
          ((s.fp f).closedCauses.any = false → (s.fp f).noted.any = false → (s.fp f).lockAfterSale = false →
            (t.fp f).state = .ended) ∧
          t.sj.slot a.slot = some e' ∧ e'.state = .unsettled ∧ e'.seq = e.seq ∧
          e'.ended = some (s.sps.time, .pumpFail) ∧ e'.sale = some x ∧ x.grade = g ∧
          x.generation = s.pru.generation ∧ x.start = s.sps.time ∧ x.volume = 0 ∧ x.money = 0 ∧ x.accL = 0 ∧
          x.accH = 0 ∧
          (∀ q, s.pru.current.get g = some q → x.price = (match a.level with
            | .level1 => q.level1
            | .level2 => q.level2) ∧ x.target = targetOf a.limit x.price) ∧
          t.psg = s.psg ∧ (∀ p, (t.field f.main p).wanted = (s.field f.main p).wanted) ∧
          t.nu.get .saleDone = (s.nu.get .saleDone).raisedFor f ∧ t.fp f.other = s.fp f.other ∧ t.clp = s.clp)) ∧
    -- another nozzle in ARMED
    (∀ a : Auth, (s.fp f).state = .armed → (s.fp f).auth = some a → (s.fp f).nozzleUp.get n = false →
      ((s.fp f).upList = [] →
        (∀ g, (s.sus.image.hose.get f).get n = some g → s.sus.image.defined g = true → gradeIn a.grades g = false) →
        ∃ v, exec (.nozzleLift f n) s = .next v ∧
          v = u.setFp f { s.fp f with nozzleUp := (s.fp f).nozzleUp.set n true, waiting := .wrongNozzle } ∧
          exec (.nozzleHang f n) v = .next (w.setFp f { s.fp f with waiting := .none })) ∧
      ((s.fp f).upList ≠ [] → exec (.nozzleLift f n) s = .next (u.setFp f
        { s.fp f with nozzleUp := (s.fp f).nozzleUp.set n true, waiting := .nozzleConflict }))) ∧
    -- another nozzle in a sale
    (∀ r : Sale, s.inSale f = true → (s.fp f).sale = some r → (s.fp f).saleNozzle ≠ some n →
      ((s.fp f).nozzleUp.get n = false →
        ∃ t, exec (.nozzleLift f n) s = .next t ∧
          t = (u.setFp f { s.fp f with
            nozzleUp := (s.fp f).nozzleUp.set n true
            sale := some { r with flags := { r.flags with extraNozzle := true } } }).withSj t.sj ∧
          t.sj = { s.sj with slots := t.sj.slots } ∧
          ∀ (a : Auth) (e : Entry) (x : SaleFields), (s.fp f).auth = some a → s.sj.slot a.slot = some e →
            e.sale = some x →
            (∀ i, i ≠ a.slot → t.sj.slot i = s.sj.slot i) ∧
            ∃ e', t.sj.slot a.slot = some e' ∧ e'.flags.extraNozzle = true ∧ e'.state = e.state ∧ e'.seq = e.seq ∧
              e'.sale = some { x with
                volume := r.volume, money := r.money, accL := r.accL / 1000000, accH := r.accH / 1000000 }) ∧
      ((s.fp f).nozzleUp.get n = true →
        exec (.nozzleHang f n) s =
          .next (w.setFp f { s.fp f with nozzleUp := (s.fp f).nozzleUp.set n false })))

/-! ### Pumps -/

/-- From R69 to R71: when the inrush gap has run out, the gate grants the head of the start queue in OPEN and CLOSING:
it leaves the queue, closes its contactor and starts its feedback timer; in every other state nothing is granted.
Feedback in STARTING stops the feedback timer and primes the pump, or with a prime time of 0 makes it RUNNING; the end
of the prime time makes it RUNNING; with no demand left it is RUN_ON instead, or with a run-on time of 0 OFF; the end
of the run-on opens its contactor; feedback in OFF and QUEUED starts the feedback timer. The other pump is untouched.
The model's choices: an expiry of the gap brings the time since the last start up to the gap (assumption 3), and a
grant starts the feedback timer whatever the level of the feedback (assumption 24). -/
def Obligations.PumpsStartPrimeRunAndRunOn : Prop :=
  ∀ (p : Pump) (s : State) (runs : Bool → PumpRec), s.resetHeld = none →
    (∀ feedback, runs feedback = { s.pump p with
      state := if 0 < (s.pump p).demand then .running else if 0 < s.sus.image.runOn then .runOn else .off
      feedbackTimer :=
        if (s.pump p).demand = 0 ∧ s.sus.image.runOn = 0 ∧ feedback = true then some (s.sus.image.feedback * 1000)
        else none
      primeTimer := none
      runOnTimer :=
        if (s.pump p).demand = 0 ∧ 0 < s.sus.image.runOn then some (s.sus.image.runOn * 1000000) else none }) →
    (∀ rest, s.psg.queue = p :: rest →
      (s.sps.seq = .opened ∨ s.sps.seq = .closing →
        exec .inrushGapExpiry s = .next { s with
          psg :=
            { pumps := s.psg.pumps.set p
                { s.pump p with state := .starting, feedbackTimer := some (s.sus.image.feedback * 1000) }
              queue := rest
              sinceStart := 0 } }) ∧
      (s.sps.seq ≠ .opened → s.sps.seq ≠ .closing →
        exec .inrushGapExpiry s = .next { s with
          psg := { s.psg with sinceStart := max s.psg.sinceStart (s.sus.image.inrushGap * 1000) } })) ∧
    ((s.pump p).state = .starting →
      ∃ t, exec (.pumpFeedbackAsserted p) s = .next t ∧ t.pins.feedback.get p = true ∧
        t.psg = { s.psg with pumps := s.psg.pumps.set p (
          if 0 < s.sus.image.prime then { s.pump p with
            state := .priming, feedbackTimer := none, primeTimer := some (s.sus.image.prime * 1000)
            runOnTimer := none }
          else runs true) } ∧ t.sj = s.sj) ∧
    ((s.pump p).state = .off ∨ (s.pump p).state = .queued →
      ∃ t, exec (.pumpFeedbackAsserted p) s = .next t ∧ t.pins.feedback.get p = true ∧
        t.psg = { s.psg with pumps := s.psg.pumps.set p { s.pump p with
          feedbackTimer := some (s.sus.image.feedback * 1000) } } ∧ t.sj = s.sj ∧ t.fpc = s.fpc) ∧
    ((s.pump p).state = .priming → (s.pump p).primeTimer.isSome →
      ∃ t, exec (.pumpPrimeExpiry p) s = .next t ∧
        t.psg = { s.psg with pumps := s.psg.pumps.set p (runs (s.pins.feedback.get p)) } ∧ t.sj = s.sj) ∧
    ((s.pump p).state = .runOn → (s.pump p).runOnTimer.isSome →
      exec (.pumpRunOnExpiry p) s = .next { s with
        psg := { s.psg with pumps := s.psg.pumps.set p { s.pump p with
          state := .off, primeTimer := none, runOnTimer := none
          feedbackTimer := if s.pins.feedback.get p then some (s.sus.image.feedback * 1000) else none } } })

/-- From R53, R56, R62 and R72: feedback that falls in PRIMING, RUNNING or RUN_ON, and a feedback timer that runs out
in STARTING, OFF or QUEUED, fail the pump with the cause of each: it is FAILED with its timers stopped and out of the
queue, PUMP_FAIL is raised, a FUELING sale that needs it stops with cause PUMP_FAIL, and a sale in STARTING that needs
it ends at once with that reason, its demand withdrawn. -/
def Obligations.PumpFailureStopsItsSales : Prop :=
  ∀ (p : Pump) (s : State) (c : Instr) (cause : PumpCause), s.resetHeld = none →
    (((s.pump p).state = .priming ∨ (s.pump p).state = .running ∨ (s.pump p).state = .runOn) ∧
        cause = .feedbackLost ∧ c = .pumpFeedbackReleased p) ∨
      ((s.pump p).feedbackTimer.isSome ∧ (s.pump p).state = .starting ∧ cause = .noFeedback ∧
        c = .pumpFeedbackTimerExpiry p) ∨
      ((s.pump p).feedbackTimer.isSome ∧ ((s.pump p).state = .off ∨ (s.pump p).state = .queued) ∧ cause = .stuck ∧
        c = .pumpFeedbackTimerExpiry p) →
    ∃ t, exec c s = .next t ∧ (t.pump p).state = .failed ∧ (t.pump p).cause = cause ∧
      (t.pump p).feedbackTimer = none ∧ (t.pump p).primeTimer = none ∧ (t.pump p).runOnTimer = none ∧
      p ∉ t.psg.queue ∧ (t.nu.get .pumpFail).pending = true ∧
      (c = .pumpFeedbackReleased p → t.pins.feedback.get p = false) ∧
      (∀ f r, (s.fp f).state = .fueling → (s.fp f).sale = some r → needsPump r.t p = true →
        (t.fp f).state = .stopping ∧ (t.fp f).stopCause = some .pumpFail ∧ (t.fp f).valvesShut) ∧
      (∀ f r a, (s.fp f).state = .starting → (s.fp f).sale = some r → (s.fp f).auth = some a →
        needsPump r.t p = true → s.entriesHeld →
        s.endsFromStarting t f r a .pumpFail ∧
          ((s.fp f.other).state ≠ .starting →
            ∀ q, (t.pump q).demand = (s.pump q).demand - (if needsPump r.t q then 1 else 0))) ∧
      t.sus = s.sus ∧ t.clp = s.clp

/-! ### The site -/

/-- From R160, R163 and R81: a step of the counter adds one second, wrapping the day; in AUTO with the time valid a
change of the scheduled state sets the wanted site state; a pending price set whose seconds the valid time comes to
equal is activated. -/
def Obligations.CounterStepsAndDrives : Prop :=
  ∀ (s : State) (now : Stamp), s.resetHeld = none →
    now = (if s.sps.time.seconds < 86399 then { s.sps.time with seconds := s.sps.time.seconds + 1 }
      else ⟨if s.sps.time.day < 65535 then s.sps.time.day + 1 else 0, 0, s.sps.time.valid⟩) →
    ∃ t, exec .timeOfDayStep s = .next t ∧ t.sps.time = now ∧ t.sps.stepTimer = some 1000000 ∧
      t.sps.wantedOpen =
        (if s.sps.schedule.auto ∧ s.sps.time.valid ∧
            s.sps.schedule.openAt s.sps.time ≠ s.sps.schedule.openAt now then
          s.sps.schedule.openAt now
        else s.sps.wantedOpen) ∧
      (match s.pru.pendingSet with
      | some p =>
        if s.sps.time.valid ∧ now.seconds = p.atSeconds then
          t.pru.current = p.set ∧ t.pru.pendingSet = none ∧
            t.pru.generation = (if s.pru.generation < 65535 then s.pru.generation + 1 else 1) ∧
            (t.nu.get .priceApplied).pending = true
        else t.pru.current = s.pru.current ∧ t.pru.pendingSet = some p ∧ t.pru.generation = s.pru.generation
      | none => t.pru.current = s.pru.current ∧ t.pru.pendingSet = none ∧ t.pru.generation = s.pru.generation)

/-- From R56, R62, R65 and R166: when the close grace runs out the timer stops, a FUELING sale stops with cause CLOSING
and a PRESET stop becomes CLOSING; a STARTING sale ends with reason CLOSING. With the other fueling point still ARMED
or delivering the site stays in CLOSING; with no sale and no authorization left it passes to SHUTTING. -/
def Obligations.CloseGraceStopsSales : Prop :=
  ∀ (f : Fp) (s : State) (r : Sale), s.resetHeld = none → s.sps.closeGrace.isSome → (s.fp f).sale = some r →
    ((s.fp f).state = .fueling ∨ ((s.fp f).state = .stopping ∧ (s.fp f).stopCause = some .preset) →
      ∃ t, exec .closeGraceExpiry s = .next t ∧ t.sps.closeGrace = none ∧ t.sps.seq = s.sps.seq ∧
        (t.fp f).state = .stopping ∧ (t.fp f).stopCause = some .closing ∧
        ((s.fp f).state = .fueling → (t.fp f).valvesShut ∧
          (t.fp f).runOutTimer = some (s.sus.image.runOut * 1000)) ∧
        t.clp = s.clp ∧ t.sus = s.sus ∧ t.miu = s.miu) ∧
    (∀ a, (s.fp f).state = .starting → (s.fp f).auth = some a → s.entriesHeld →
      ∃ t, exec .closeGraceExpiry s = .next t ∧ t.sps.closeGrace = none ∧ s.saleEnded t f r a .closing ∧
        (s.sps.seq ≠ .closing ∨ (s.fp f.other).state = .armed ∨ (s.fp f.other).state = .fueling ∨
            (s.fp f.other).state = .stopping →
          t.sps.seq = s.sps.seq ∧ s.landsAfterSale t f .closing) ∧
        (s.sps.seq = .closing → s.sps.domain ≠ .off → (s.fp f.other).state ≠ .armed →
          s.inSale f.other = false ∨ ((s.fp f.other).state = .starting ∧ (s.fp f.other).sale ≠ none ∧
            (s.fp f.other).auth ≠ none) →
          t.shutsFrom s ∧ (t.fp f).state = (if s.endLocks f .closing = true then .locked else .closed)) ∧
        t.clp = s.clp ∧ t.sus = s.sus)

/-- From R108, R120, R167, R170 and R173: the settle time of W2 begins the display test of W3, of W5 opens the site
(SITE_STATE, SITE removed from both fueling points) when it is wanted open. Of SHUTTING, the settle time of S1 begins
S2, which switches the reader domain off; that of S2 begins S3, which orders blanking, or with the display supply off
S4, which switches the heater off; that of S4 begins S5, which sets the pulser supply per night watch; that of S5 ends
in NIGHT. With the display supply off there is nothing to blank, so S3 orders no blanking (R167 has a switch that is
already as wanted make no change; the model's reading, assumption 41). The verification of the last blank field is
blanking done and begins S4, which switches the display supply off. -/
def Obligations.SettleTimesMoveStages : Prop :=
  ∀ s : State, s.resetHeld = none →
    (s.sps.stageTimer.isSome →
      (s.sps.stage = .w2 → s.sps.cold = false → s.dbc.bus ≠ .stuck →
        ∃ t, exec .stageSettleExpiry s = .next t ∧ t.sps.stage = .w3 ∧ t.sps.stageTimer = none ∧
          t.sps.awaiting = ⟨true, true, true, true⟩ ∧ (∀ m, (t.module m).stage ≠ .none) ∧ t.fpc = s.fpc ∧
          t.sj = s.sj ∧ t.riu = s.riu) ∧
      (s.sps.stage = .w5 → s.sps.wantedOpen = true →
        ∃ t, exec .stageSettleExpiry s = .next t ∧ t.sps.seq = .opened ∧ t.sps.stage = .none ∧
          (t.nu.get .siteState).pending = true ∧ (∀ f, (t.fp f).closedCauses.site = false) ∧
          (∀ f, (t.fp f).closedCauses.display = !s.displaysOk f) ∧ t.sps.heater = (s.sps.heater && s.sps.cold) ∧
          t.sps.opened = true ∧ t.riu = s.riu ∧ t.sj = s.sj) ∧
      (s.sps.stage = .s1 → s.sps.seq = .shutting → s.sps.domain ≠ .off →
        ∃ t, exec .stageSettleExpiry s = .next t ∧ t.sps.seq = .shutting ∧ t.sps.stage = .s2 ∧
          t.sps.stageTimer = some (s.sus.image.settle * 1000) ∧ t.sps.domain = .off ∧ t.sps.cycleTimer = none ∧
          t.riu.link = .off ∧ t.riu.queue = [] ∧ t.riu.exchangeTimer = none ∧ t.dbc = s.dbc ∧ t.psg = s.psg) ∧
      (s.sps.stage = .s2 ∨ (s.sps.stage = .s1 ∧ s.sps.domain = .off) → s.sps.seq = .shutting →
        (s.sps.displaySupply = true → (∃ m, (s.module m).state = .ok) →
          ∃ t, exec .stageSettleExpiry s = .next t ∧ t.sps.seq = .shutting ∧ t.sps.stage = .s3 ∧
            t.sps.stageTimer = none ∧ t.sps.displaySupply = true ∧ t.dbc.blanked = true ∧ t.dbc.bus = s.dbc.bus ∧
            (∀ m, (t.module m).state = (s.module m).state ∧ ∀ p, (t.field m p).dirty = true ∧
              (t.field m p).wanted = (s.field m p).wanted) ∧
            t.pru = { s.pru with panelVerified := ⟨none, none⟩ } ∧ t.fpc = s.fpc ∧ t.sj = s.sj) ∧
        (s.sps.displaySupply = false → s.sps.heater = true →
          exec .stageSettleExpiry s = .next { s with
            sps :=
              { s.sps with
                heater := false, stage := .s4, stageTimer := some (s.sus.image.settle * 1000) } })) ∧
      (s.sps.stage = .s4 → s.sps.seq = .shutting → s.sps.pulserSupply ≠ s.sus.image.nightWatch →
        ∃ t, exec .stageSettleExpiry s = .next t ∧ t.sps.seq = .shutting ∧ t.sps.stage = .s5 ∧
          t.sps.stageTimer = some (s.sus.image.settle * 1000) ∧ t.sps.pulserSupply = s.sus.image.nightWatch ∧
          (s.sus.image.nightWatch = true → ∀ m, (t.meter m).levelA = s.pins.lineA.get m ∧
            (t.meter m).levelB = s.pins.lineB.get m ∧ (t.meter m).lastEdgeA = s.miu.clock ∧
            (t.meter m).lastEdgeB = s.miu.clock) ∧
          t.fpc = s.fpc ∧ t.dbc = s.dbc ∧ t.sj = s.sj ∧ t.riu = s.riu) ∧
      (s.sps.stage = .s5 → s.sps.wantedOpen = false →
        ∃ t, exec .stageSettleExpiry s = .next t ∧ t.sps.seq = .night ∧ t.sps.stage = .none ∧
          t.sps.pulserSupply = s.sus.image.nightWatch ∧ (t.nu.get .siteState).pending = true ∧ t.fpc = s.fpc ∧
          t.sj = s.sj ∧ t.riu = s.riu)) ∧
    (∀ u, s.dbc.bus = .busy u → u.doing = .check → s.sps.seq = .shutting → s.sps.stage = .s3 →
      s.sps.displaySupply = true → s.dbc.blanked = true → (∀ f, (s.fp f).state ≠ .armed) →
      (∀ m, (s.module m).stage = .none) → u.written = wantedCodes u.module u.field .blank →
      (s.field u.module u.field).dirty = false →
      (∀ m p, (s.module m).state = .ok → m ≠ u.module ∨ p ≠ u.field →
        (s.field m p).dirty = false ∧ (s.field m p).verified = some (wantedCodes m p .blank)) →
      ∃ t, exec (.displayCheckEnd
          (some (BitVec.ofNat 8 (u.field.id + (u.written.map BitVec.toNat).sum), 0))) s = .next t ∧
        t.sps.seq = .shutting ∧ t.sps.stage = .s4 ∧ t.sps.stageTimer = some (s.sus.image.settle * 1000) ∧
        t.sps.displaySupply = false ∧ t.sps.heater = false ∧ t.dbc.bus = .idle none ∧ t.dbc.blanked = false ∧
        (∀ m, (t.module m).state = (if (s.module m).state = .ok then .unknown else (s.module m).state) ∧
          ∀ p, (t.field m p).verified = none ∧ (t.field m p).dirty = true) ∧
        (∀ f, (t.fp f).closedCauses.display = true) ∧ t.riu = s.riu ∧ t.psg = s.psg)

/-- From R103, R169, R170 and R174: in W1 with the heater ON, a reading of HT + 2 or above ends the heating and begins
W2; the heat limit raises HEAT_TIMEOUT, sets the cold flag with COLD on both fueling points, leaves the heater ON and,
W2 and W3 passing at once, begins the creep watch of W4. In OPEN with the cold flag such a reading begins the warm-up:
heater OFF, display supply ON; its settle time starts a test of every module; the outcome of the last one ends it,
with the cold flag and COLD gone. -/
def Obligations.HeatingEndsWarmOrCold : Prop :=
  ∀ (celsius : Int) (s : State), s.resetHeld = none →
    (s.sps.seq = .waking → s.sps.stage = .w1 → s.sps.heater = true → s.sps.heatTimer.isSome →
      (s.sus.image.ht + 2 ≤ celsius → s.sps.cold = false → s.sps.displaySupply = false →
        exec (.ambientReading celsius) s = .next { s with
          sps := { s.sps with
            ambient := celsius, heater := false, heatTimer := none, displaySupply := true, stage := .w2
            stageTimer := some (s.sus.image.settle * 1000) } }) ∧
      (celsius < s.sus.image.ht + 2 →
        exec (.ambientReading celsius) s = .next { s with sps := { s.sps with ambient := celsius } }) ∧
      (∃ t, exec .heatTimerExpiry s = .next t ∧ t.sps.seq = .waking ∧ t.sps.stage = .w4 ∧
        t.sps.stageTimer = some 2000000 ∧ t.sps.cold = true ∧ t.sps.heater = true ∧ t.sps.heatTimer = none ∧
        t.sps.displaySupply = s.sps.displaySupply ∧ t.sps.pulserSupply = true ∧
        t.nu.get .heatTimeout = (s.nu.get .heatTimeout).raised ∧ (∀ f, (t.fp f).closedCauses.cold = true) ∧
        (∀ m, (t.meter m).watchCount = 0) ∧ t.dbc = s.dbc ∧ t.sj = s.sj ∧ t.riu = s.riu)) ∧
    (s.sps.seq = .opened →
      (s.sps.cold = true → s.sps.warmUp = .none → s.sus.image.ht + 2 ≤ celsius →
        exec (.ambientReading celsius) s = .next { s with
          sps := { s.sps with
            ambient := celsius, heater := false, displaySupply := true, warmUp := .powering
            warmTimer := some (s.sus.image.settle * 1000) } }) ∧
      (s.sps.cold = false ∨ s.sps.warmUp ≠ .none ∨ celsius < s.sus.image.ht + 2 →
        exec (.ambientReading celsius) s = .next { s with sps := { s.sps with ambient := celsius } }) ∧
      (s.sps.stageTimer = none → s.sps.warmTimer.isSome → s.sps.warmUp = .powering → s.dbc.bus ≠ .stuck →
        ∃ t, exec .stageSettleExpiry s = .next t ∧ t.sps.warmUp = .testing ∧ t.sps.warmTimer = none ∧
          t.sps.awaiting = ⟨true, true, true, true⟩ ∧ t.sps.cold = s.sps.cold ∧
          (∀ m, (t.module m).stage ≠ .none ∧ ((s.module m).stage = .none → (t.module m).stage = .pattern)) ∧
          t.fpc = s.fpc ∧ t.sj = s.sj ∧ t.riu = s.riu) ∧
      (∀ u, s.sps.warmUp = .testing → s.sps.stage = .none → s.dbc.bus = .busy u → u.doing = .check →
        s.dbc.blanked = false → (s.module u.module).stage = .values → (∀ m, s.sps.awaiting.get m = decide (m = u.module)) →
        (∀ f, (s.fp f).state = .closed ∨ (s.fp f).state = .locked) →
        u.written = wantedCodes u.module u.field (s.field u.module u.field).wanted →
        (∀ p, (s.field u.module p).dirty = false) →
        (∀ p, p ≠ u.field → (s.field u.module p).verified = some (wantedCodes u.module p (s.field u.module p).wanted)) →
        ∃ t, exec (.displayCheckEnd
            (some (BitVec.ofNat 8 (u.field.id + (u.written.map BitVec.toNat).sum), 0))) s = .next t ∧
          t.sps.warmUp = .none ∧ t.sps.cold = false ∧ t.sps.seq = .opened ∧
          (t.module u.module).state = .ok ∧ (t.module u.module).stage = .none ∧
          (t.fp u.module.fp).closedCauses.display = !t.displaysOk u.module.fp ∧
          (∀ f, (t.fp f).closedCauses.cold = false ∧ (t.fp f).state =
            if (s.fp f).state = .locked then .locked
            else if (t.fp f).closedCauses.any then .closed
            else if (s.fp f).upList.isEmpty then .idle
            else .calling) ∧
          t.riu = s.riu ∧ t.psg = s.psg))

/-- From R106, R121, R171, R172, R175 and R183: the end of the creep watch begins W5, which powers the reader if its
domain is OFF; the 2 s of a power-cycle end with the domain ON and the link WAITING; a hold timer that runs out stops,
and the main display is to show MONEY 0, VOLUME 0 and no price. -/
def Obligations.CreepWatchCycleAndHoldEnd : Prop :=
  ∀ (s : State) (r : Riu), s.resetHeld = none →
    r = { s.riu with
      link := .waiting, sendErrors := 0, recvErrors := 0, waitingTimer := some 10000000
      exchangeTimer := some 100000, slowPace := false } →
    (s.sps.stage = .w4 → s.sps.stageTimer.isSome →
      (s.sps.domain = .off → exec .creepWatchExpiry s = .next { s with
        riu := r
        sps := { s.sps with
          domain := .on, cycleTimer := none, stage := .w5, stageTimer := some (s.sus.image.settle * 1000) } }) ∧
      (s.sps.domain ≠ .off → exec .creepWatchExpiry s = .next { s with
        sps := { s.sps with stage := .w5, stageTimer := some (s.sus.image.settle * 1000) } })) ∧
    (s.sps.domain = .cycling → s.sps.cycleTimer.isSome →
      exec .readerCycleExpiry s = .next { s with riu := r, sps := { s.sps with domain := .on, cycleTimer := none } }) ∧
    (∀ f : Fp, (s.sps.holdTimers.get f).isSome →
      ∃ t, exec (.holdTimerExpiry f) s = .next t ∧ t.sps.holdTimers.get f = none ∧
        t.sps.holdTimers.get f.other = s.sps.holdTimers.get f.other ∧ (t.fp f).hold = .none ∧
        (t.field f.main .f1).wanted = .number 0 ∧ (t.field f.main .f2).wanted = .number 0 ∧
        (t.field f.main .f3).wanted = .blank ∧ t.sj = s.sj ∧ t.nu = s.nu ∧ t.riu = s.riu ∧ t.psg = s.psg ∧
        t.clp = s.clp ∧ t.fp f.other = s.fp f.other ∧ (t.fp f).state = (s.fp f).state)

/-- From R48, R62, R66, R74, R157 and R176: PWARN in OPEN, CLOSING, WAKING or SHUTTING freezes the site: FROZEN from the
state left, with the resume stage of a wake, both contactors open and the start queue empty, POWER_FREEZE raised. A
sale in STARTING, FUELING or STOPPING ends at once with POWER_LOSS: valves shut, nothing learned, its entry UNSETTLED
with the figures of its registers and made the hold candidate, and its fueling point where R62 puts it. An ARMED
authorization is dropped with cause POWER; every other fueling point stays as it is. The supplies, the reader domain,
the heater, the bus, the timers of heater, close grace and holds, and the time stay. In NIGHT only POWER_FREEZE is
raised; in RECOVERING it becomes due at the end of W0, and nothing else changes (R177). -/
def Obligations.PowerWarningFreezes : Prop :=
  ∀ s : State, s.resetHeld = none →
    (∀ was : FrozenFrom,
      s.sps.seq = .opened ∧ was = .opened ∨ s.sps.seq = .closing ∧ was = .closing ∨
        s.sps.seq = .waking ∧ was = .waking ∨ s.sps.seq = .shutting ∧ was = .shutting →
      ∃ t, exec .powerWarning s = .next t ∧ t.sps.seq = .frozen ∧ t.sps.stage = .none ∧ t.sps.stageTimer = none ∧
        t.sps.frozenFrom = was ∧
        t.sps.resume = (if was = .waking then if s.sps.stage = .w1 then .w1 else .w2 else .none) ∧
        t.sps.warning = true ∧ t.pins = { s.pins with pwarn := true } ∧
        t.sps.pulserSupply = s.sps.pulserSupply ∧ t.sps.displaySupply = s.sps.displaySupply ∧
        t.sps.domain = s.sps.domain ∧ t.sps.heater = s.sps.heater ∧ t.sps.heatTimer = s.sps.heatTimer ∧
        t.sps.closeGrace = s.sps.closeGrace ∧ t.sps.holdTimers = s.sps.holdTimers ∧ t.sps.time = s.sps.time ∧
        t.dbc.bus = s.dbc.bus ∧ t.psg.queue = [] ∧
        (∀ p, (t.pump p).state = if (s.pump p).state = .failed then .failed else .off) ∧
        t.nu.get .powerFreeze = (s.nu.get .powerFreeze).raised ∧ t.sj.anticipation = s.sj.anticipation ∧
        t.clp = s.clp ∧ t.sus = s.sus ∧ t.miu = s.miu ∧
        (∀ f r a, s.inSale f = true → (s.fp f).sale = some r → (s.fp f).auth = some a → s.entriesHeld →
          s.saleEnded t f r a .powerLoss ∧ s.landsAfterSale t f .powerLoss ∧
            (t.fp f).nozzleUp = (s.fp f).nozzleUp ∧ (t.fp f).runOutTimer = none ∧ (t.fp f).noFlowTimer = none ∧
            (t.fp f).expiryTimer = none ∧ t.sj.holdCandidates.get f = some ⟨a.slot, a.seq⟩) ∧
        (∀ f a, (s.fp f).state = .armed → (s.fp f).auth = some a →
          (t.fp f).auth = none ∧ (t.fp f).expiryTimer = none ∧ (t.fp f).waiting =
            (if (t.fp f).state = .calling ∧ 2 ≤ (s.fp f).upList.length then .nozzleConflict else .none) ∧
          (t.fp f).state = (if (s.fp f).closedCauses.any then .closed else if (s.fp f).upList.isEmpty then .idle
            else .calling) ∧
          (s.entriesHeld → t.sj.slot a.slot = none) ∧
          (t.nu.get .authEnded).pending = true ∧ (t.nu.get .authEnded).fps.get f = true ∧
          (a.owner = .reader → s.riu.link = .active → s.riu.queue.length < 7 →
            OutEntry.frame (.authEnded f a.seq .power) ∈ t.riu.queue)) ∧
        ∀ f, (s.fp f).state ≠ .armed → s.inSale f = false → t.fp f = s.fp f) ∧
    (s.sps.seq = .night → exec .powerWarning s = .next ({ s with
      pins := { s.pins with pwarn := true }, sps := { s.sps with warning := true } }.raise .powerFreeze)) ∧
    (s.sps.seq = .recovering → exec .powerWarning s = .next { s with
      pins := { s.pins with pwarn := true }, sps := { s.sps with warning := true, warnedInRecovery := true } })

/-- From R109, R157, R165 to R170, R173 and R178: PWARN released in FROZEN is a dip: every display field is dirty and no
panel generation is proved, the hold candidates are none, frozen from and the resume stage are none, and the sequencer
returns by the state frozen from. From OPEN it is OPEN again with closed cause SITE removed and DISPLAY set by the modules,
or goes on towards SHUTTING if the site is wanted CLOSED. From CLOSING it is CLOSING with the grace as it stands while a
fueling point is ARMED or in a sale, or OPEN if wanted so, and otherwise passes to SHUTTING. From WAKING it resumes at W1
with heater and heat timer as they stand, at W1 afresh if not begun, or from W2 on with its display test, or goes on to
SHUTTING if the site is wanted CLOSED. From SHUTTING it is NIGHT, reader domain, display supply and heater off and the
pulser supply per night watch, or WAKING from there. SITE_STATE is raised at OPEN, CLOSING and NIGHT. The shutting test
before the comparison with the wanted state, and the resumed stage before it, are the model's reading (assumption 43), as
is the notice (assumption 33). In any state but FROZEN only the monitor state changes (R177). -/
def Obligations.DipReturnsTheSite : Prop :=
  ∀ s : State, s.resetHeld = none →
    (s.sps.seq = .frozen → ∃ t, exec .powerWarningRelease s = .next t ∧
      t.sps.frozenFrom = .none ∧ t.sps.resume = .none ∧ t.sps.warning = false ∧ t.sps.wantedOpen = s.sps.wantedOpen ∧
      t.pins = { s.pins with pwarn := false } ∧ (∀ m p, (t.field m p).dirty = true) ∧
      t.pru.panelVerified = ⟨none, none⟩ ∧ t.sj.holdCandidates = ⟨none, none⟩ ∧ t.clp = s.clp ∧ t.sus = s.sus ∧
      ((∀ f, ¬ s.busyAt f) → t.sj.slots = s.sj.slots ∧ t.sj.totals = s.sj.totals) ∧
      (s.sps.frozenFrom = .opened ∨ s.sps.frozenFrom = .closing ∨ s.sps.frozenFrom = .shutting →
        (t.nu.get .siteState).pending = true) ∧
      -- from OPEN
      (s.sps.frozenFrom = .opened → s.sps.wantedOpen = true →
        t.sps.seq = .opened ∧ t.sps.stage = .none ∧ t.sps.closeGrace = none ∧ t.riu = s.riu ∧
          t.nu.get .siteState = (s.nu.get .siteState).raised ∧ t.sj.slots = s.sj.slots ∧ t.sj.totals = s.sj.totals ∧
          t.sps.heater = (s.sps.heater && s.sps.cold) ∧
          ∀ f, (t.fp f).closedCauses =
            { (s.fp f).closedCauses with site := false, display := !s.displaysOk f }) ∧
      (s.sps.frozenFrom = .opened → s.sps.wantedOpen = false → (∀ f, ¬ s.busyAt f) → s.sps.domain ≠ .off →
        t.shutsFrom s) ∧
      -- from CLOSING
      (s.sps.frozenFrom = .closing → (∃ f, s.busyAt f) →
        (s.sps.wantedOpen = false → t.sps.seq = .closing ∧ t.sps.closeGrace = s.sps.closeGrace ∧
          t.nu.get .siteState = (s.nu.get .siteState).raised ∧ t.riu = s.riu ∧ ∀ f, t.fp f = s.fp f) ∧
        (s.sps.wantedOpen = true → t.sps.seq = .opened ∧ t.sps.closeGrace = none)) ∧
      (s.sps.frozenFrom = .closing → (∀ f, ¬ s.busyAt f) → s.sps.domain ≠ .off →
        t.shutsFrom s ∧ t.nu.get .siteState = (s.nu.get .siteState).raised) ∧
      -- from WAKING
      (s.sps.frozenFrom = .waking → s.sps.wantedOpen = true →
        t.sps.seq = .waking ∧ t.fpc = s.fpc ∧ t.riu = s.riu ∧ t.psg = s.psg ∧ t.nu = s.nu ∧
        (s.sps.resume = .w1 → s.sps.heater = true ∨ s.sps.heatTimer.isSome →
          t.sps.stage = .w1 ∧ t.sps.stageTimer = none ∧ t.sps.heater = s.sps.heater ∧
            t.sps.heatTimer = s.sps.heatTimer ∧ t.sps.displaySupply = s.sps.displaySupply ∧
            t.sps.pulserSupply = s.sps.pulserSupply) ∧
        (s.sps.resume = .w1 → s.sps.heater = false → s.sps.heatTimer = none → s.sps.ambient < s.sus.image.ht →
          t.sps.stage = .w1 ∧ t.sps.stageTimer = none ∧ t.sps.heater = true ∧
            t.sps.heatTimer = some (s.sus.image.heatLimit * 60000000) ∧ t.sps.displaySupply = s.sps.displaySupply) ∧
        (s.sps.resume ≠ .w1 ∨ s.sps.heater = false ∧ s.sps.heatTimer = none ∧ s.sus.image.ht ≤ s.sps.ambient →
          (s.sps.cold = false → s.sps.displaySupply = false →
            t.sps.stage = .w2 ∧ t.sps.displaySupply = true ∧
              t.sps.stageTimer = some (s.sus.image.settle * 1000)) ∧
          (s.sps.cold = false → s.sps.displaySupply = true → s.dbc.bus ≠ .stuck →
            t.sps.stage = .w3 ∧ t.sps.stageTimer = none ∧ t.sps.awaiting = ⟨true, true, true, true⟩ ∧
              ∀ m, (t.module m).stage =
                if (s.module m).stage = .none then .pattern else (s.module m).stage) ∧
          (s.sps.cold = true ∨ s.sps.displaySupply = true ∧ s.dbc.bus = .stuck →
            t.sps.stage = .w4 ∧ t.sps.stageTimer = some 2000000 ∧ t.sps.pulserSupply = true ∧
              t.sps.displaySupply = s.sps.displaySupply ∧ ∀ m, (t.meter m).watchCount = 0))) ∧
      (s.sps.frozenFrom = .waking → s.sps.wantedOpen = false →
        (t.sps.seq = .shutting ∨ t.sps.seq = .night) ∧
          ((∀ f, ¬ s.busyAt f) → s.sps.domain ≠ .off → t.shutsFrom s)) ∧
      -- from SHUTTING
      (s.sps.frozenFrom = .shutting →
        t.sps.domain = .off ∧ (s.sps.domain ≠ .off → t.riu.link = .off ∧ t.riu.queue = []) ∧
          t.nu.get .siteState = (s.nu.get .siteState).raised ∧
          (s.sps.wantedOpen = false →
            t.sps.seq = .night ∧ t.sps.stage = .none ∧ t.sps.stageTimer = none ∧ t.sps.heater = false ∧
              t.sps.displaySupply = false ∧ t.sps.pulserSupply = s.sus.image.nightWatch ∧
              (s.sps.displaySupply = true → t.dbc.blanked = false ∧
                ∀ m, (t.module m).state ≠ .ok ∧ (t.module m).stage = .none)) ∧
          (s.sps.wantedOpen = true → t.sps.seq = .waking))) ∧
    (s.sps.seq ≠ .frozen → exec .powerWarningRelease s = .next { s with
      pins := { s.pins with pwarn := false }, sps := { s.sps with warning := false } })

/-! ### The reader link -/

/-- From R113, R114, R119 and R121: the auto cycle holdoff ends; a waiting timer that runs out makes the link ABSENT
at the 1 s pace; an expiry of the exchange timer with no exchange in flight sends the head of the queue in ACTIVE and
WARNING, POLL in the other states and with an empty queue, and with one in flight only runs on; the answer window
opens when the frame is out. That the entry to ABSENT starts the exchange timer at a full 1 s is the model's choice
(assumption 55). -/
def Obligations.ReaderTimersAndExchanges : Prop :=
  ∀ s : State, s.resetHeld = none →
    exec .autoCycleHoldoffExpiry s = .next { s with riu := { s.riu with holdoff := none } } ∧
    (s.riu.link = .waiting → s.riu.waitingTimer.isSome →
      exec .readerWaitingExpiry s = .next { s with riu := { s.riu with
        link := .absent, waitingTimer := none, exchangeTimer := some 1000000, slowPace := true } }) ∧
    (∀ x, s.riu.exchange = some x →
      exec .readerFrameSent s = .next { s with riu := { s.riu with exchange := some { x with sent := true } } }) ∧
    (s.riu.exchangeTimer.isSome →
      (s.riu.exchange.isSome →
        exec .exchangeTimerExpiry s = .next { s with riu := { s.riu with
          exchangeTimer := some (if s.riu.slowPace then 1000000 else 100000) } }) ∧
      (s.riu.exchange = none →
        (s.riu.link ≠ .active ∧ s.riu.link ≠ .warning ∨ s.riu.queue = [] →
          exec .exchangeTimerExpiry s = .next { s with riu := { s.riu with
            exchangeTimer := some (if s.riu.slowPace then 1000000 else 100000)
            exchange := some ⟨.poll, false⟩ } }) ∧
        (s.riu.link = .active ∨ s.riu.link = .warning → ∀ frame rest, s.riu.queue = .frame frame :: rest →
          exec .exchangeTimerExpiry s = .next { s with riu := { s.riu with
            exchangeTimer := some (if s.riu.slowPace then 1000000 else 100000)
            exchange := some ⟨frame, false⟩
            queue := rest
            textStage := (match frame with
              | .hostText _ _ => .sent
              | _ => s.riu.textStage)
            answersSeen := (match frame with
              | .hostText _ _ => 0
              | _ => s.riu.answersSeen) } })))

/-- From R116 to R119 and R123: an answer window that closes with no answer adds 4 to SEC, a receive error adds 2 to
REC, up to 255. In ACTIVE and WARNING, with both below 80 the link is ACTIVE; from 80 it is WARNING, READER_WARN
raised where it was ACTIVE; in RECOVERING the good run is 0. From 192, in each of the three, it is fenced: the queue
is emptied, READER_FENCED is raised, a reader-owned ARMED authorization is dropped, and the domain is power-cycled
when the policy says so and no holdoff runs. In WAITING and ABSENT the exchange is over and nothing is counted. -/
def Obligations.BadExchangesWarnAndFence : Prop :=
  ∀ (c : Instr) (send recv : Nat) (s : State), s.resetHeld = none → s.riu.awaiting = true →
    s.riu.textStage ≠ .sent →
    (c = .readerAnswerWindowClose ∧ send = min 255 (s.riu.sendErrors + 4) ∧ recv = s.riu.recvErrors) ∨
      (c = .readerReceiveError ∧ send = s.riu.sendErrors ∧ recv = min 255 (s.riu.recvErrors + 2)) →
    (s.riu.link = .active ∨ s.riu.link = .warning → send < 80 → recv < 80 →
      exec c s = .next { s with riu := { s.riu with
        exchange := none, sendErrors := send, recvErrors := recv, link := .active } }) ∧
    (s.riu.link = .active → 80 ≤ send ∨ 80 ≤ recv → send < 192 → recv < 192 →
      exec c s = .next (State.raise { s with riu := { s.riu with
        exchange := none, sendErrors := send, recvErrors := recv, link := .warning } } .readerWarn)) ∧
    (s.riu.link = .warning → 80 ≤ send ∨ 80 ≤ recv → send < 192 → recv < 192 →
      exec c s = .next { s with riu := { s.riu with
        exchange := none, sendErrors := send, recvErrors := recv } }) ∧
    (s.riu.link = .recovering → send < 192 → recv < 192 →
      exec c s = .next { s with riu := { s.riu with
        exchange := none, sendErrors := send, recvErrors := recv, goodRun := 0 } }) ∧
    (s.riu.link = .waiting ∨ s.riu.link = .absent →
      exec c s = .next { s with riu := { s.riu with exchange := none } }) ∧
    (s.riu.link = .active ∨ s.riu.link = .warning ∨ s.riu.link = .recovering → 192 ≤ send ∨ 192 ≤ recv →
      s.sps.seq ≠ .closing →
      ∃ t, exec c s = .next t ∧ t.riu.queue = [] ∧ t.riu.exchangeTimer = none ∧ t.riu.exchange = none ∧
        t.riu.goodRun = 0 ∧ t.nu.get .readerFenced = (s.nu.get .readerFenced).raised ∧
        (∀ f a, (s.fp f).state = .armed → (s.fp f).auth = some a → a.owner = .reader →
          (t.fp f).auth = none ∧ (t.fp f).state ≠ .armed ∧ t.sj.slot a.slot = none) ∧
        (∀ f, (∀ a, (s.fp f).auth = some a → a.owner = .control) → t.fp f = s.fp f) ∧
        (if s.riu.policy.autoCycle = true ∧ s.riu.holdoff = none then
          t.riu.link = .off ∧ t.riu.sendErrors = 0 ∧ t.riu.recvErrors = 0 ∧ t.riu.holdoff = some 600000000 ∧
            t.sps.domain = .cycling ∧ t.sps.cycleTimer = some 2000000
        else
          t.riu.link = .fenced ∧ t.riu.sendErrors = send ∧ t.riu.recvErrors = recv ∧
            t.riu.holdoff = s.riu.holdoff ∧ t.sps = s.sps) ∧
        t.sj.nextSeq = s.sj.nextSeq ∧ t.sj.totals = s.sj.totals ∧ t.psg = s.psg ∧ t.clp = s.clp ∧ t.miu = s.miu)

/-- From R116, R117, R121, R123 and R126: a good answer takes one off each count and an IDLE does nothing more; with
both counts below 80 a link in WARNING is ACTIVE again; a first good answer in WAITING or ABSENT makes it ACTIVE at
the 100 ms pace; in RECOVERING the sixteenth in a row makes it ACTIVE and raises READER_RECOVERED. That the exchange
timer starts at a full 100 ms from ABSENT and runs on from WAITING is the model's choice (assumption 55). -/
def Obligations.GoodAnswersHealTheLink : Prop :=
  ∀ (fp : Byte) (s : State),
    (s.hears → exec (.readerIdle fp) s = .next s.heard) ∧
    (s.resetHeld = none → s.riu.awaiting = true → s.riu.textStage ≠ .sent →
      (s.riu.link = .warning → s.riu.sendErrors ≤ 80 → s.riu.recvErrors ≤ 80 →
        exec (.readerIdle fp) s = .next { s.heard with riu := { s.heard.riu with link := .active } }) ∧
      (s.riu.link = .warning → 80 < s.riu.sendErrors ∨ 80 < s.riu.recvErrors → s.riu.sendErrors ≤ 192 →
        s.riu.recvErrors ≤ 192 → exec (.readerIdle fp) s = .next s.heard) ∧
      (s.riu.link = .waiting ∨ s.riu.link = .absent →
        exec (.readerIdle fp) s = .next { s with riu := { s.riu with
          exchange := none, link := .active, waitingTimer := none, slowPace := false
          exchangeTimer := if s.riu.slowPace then some 100000 else s.riu.exchangeTimer } }) ∧
      (s.riu.link = .recovering → s.riu.sendErrors ≤ 192 → s.riu.recvErrors ≤ 192 → s.riu.goodRun < 15 →
        exec (.readerIdle fp) s = .next { s.heard with riu := { s.heard.riu with goodRun := s.riu.goodRun + 1 } }) ∧
      (s.riu.link = .recovering → s.riu.sendErrors ≤ 80 → s.riu.recvErrors ≤ 80 → s.riu.goodRun = 15 →
        exec (.readerIdle fp) s = .next (State.raise
          { s.heard with riu := { s.heard.riu with link := .active, goodRun := 0 } } .readerRecovered)))

/-- From R46, R127, R128 and R142: an AUTH_REQ that the policy permits, with a money limit within the ceiling,
presented to an IDLE fueling point in OPEN, arms it for the reader: the authorization with its expiry timer, a
RESERVED entry with the next sequence number in the slot chosen, and an AUTH_REPLY with OK in the place reserved for
it. One that the policy does not permit only counts as rejected. -/
def Obligations.ReaderAuthorizationArms : Prop :=
  ∀ (f : Fp) (token : Token) (value : BitVec 32) (level grades : Byte) (expiry : BitVec 16) (lv : Level)
    (i : Fin 32) (s : State), s.hears →
    (s.riu.policy.authReq = false →
      exec (.authReq (fpByte f) token 2 value level grades expiry) s = .next { s.heard with
        riu := { s.heard.riu with rejected := min 65535 (s.riu.rejected + 1) } }) ∧
    (s.riu.policy.authReq = true → s.riu.policy.fps.get f = true → s.riu.queue.length < 8 → 1 ≤ value.toNat →
      value.toNat ≤ s.riu.policy.ceiling → level = (match lv with
        | .level1 => 1
        | .level2 => 2) → gradesOfByte grades ≠ 0 → 10 ≤ expiry.toNat → expiry.toNat ≤ 600 →
      (s.fp f).state = .idle → (s.fp f).nozzleUp = ⟨false, false, false⟩ → s.sps.seq = .opened →
      s.sj.nextSeq ≤ 4294967295 → s.sj.chooseSlot = some i →
      ∃ t, exec (.authReq (fpByte f) token 2 value level grades expiry) s = .next t ∧
        t.fp f = { s.fp f with
          state := .armed, waiting := .none, expiryTimer := some (expiry.toNat * 1000000)
          auth := some
            { owner := .reader, token := token, limit := .money value.toNat, level := lv
              grades := gradesOfByte grades, expiry := expiry.toNat, accepted := s.sps.time, slot := i
              seq := s.sj.nextSeq } } ∧
        t.sj.slot i = some
          { state := .reserved, seq := s.sj.nextSeq, fp := f, owner := .reader, token := token
            limit := .money value.toNat, level := lv, sale := none, ended := none, flags := RecordFlags.empty
            overShort := none, settled := none } ∧
        (∀ k, k ≠ i → t.sj.slot k = s.sj.slot k) ∧ t.sj.nextSeq = s.sj.nextSeq + 1 ∧
        t.sj.totals = s.sj.totals ∧
        t.riu = { s.heard.riu with
          queue := (fillFirst (.authReply (fpByte f) .ok token (some (s.sj.nextSeq, value.toNat, expiry.toNat)))
            (s.riu.queue ++ [.reserved])) } ∧
        t.fp f.other = s.fp f.other ∧ t.sps = s.sps ∧ t.psg = s.psg ∧ t.miu = s.miu ∧ t.dbc = s.dbc ∧ t.clp = s.clp)

/-- From R51, R129, R130, R131 and R148: with a free place in the queue and the kind permitted, an AUTH_CANCEL with
the token of an ARMED reader-owned authorization drops it CANCELLED, its CANCEL_REPLY before the AUTH_ENDED; a
SALE_QUERY for a fueling point with no reader-owned entry is answered NO_ENTRY; a SETTLE of an UNSETTLED reader-owned
entry with its token settles it. -/
def Obligations.ReaderCancelsAsksAndSettles : Prop :=
  ∀ (f : Fp) (s : State), s.hears → s.riu.queue.length < 7 →
    (∀ a, s.riu.policy.authCancel = true → (s.fp f).state = .armed → (s.fp f).auth = some a → a.owner = .reader →
      s.sps.seq ≠ .closing →
      ∃ t, exec (.authCancel (fpByte f) a.token) s = .next t ∧ (t.fp f).auth = none ∧
        ((t.fp f).state = .closed ∨ (t.fp f).state = .idle ∨ (t.fp f).state = .calling) ∧
        (∀ k, t.sj.slot k = if k = a.slot then none else s.sj.slot k) ∧
        t.nu = (s.raiseFor .authEnded f).nu ∧
        t.riu = { s.heard.riu with
          queue := (fillFirst (.cancelReply (fpByte f) .ok a.token)
            (s.riu.queue ++ [.reserved, .frame (.authEnded f a.seq .cancelled)])) } ∧
        t.fp f.other = s.fp f.other ∧ t.psg = s.psg ∧ t.clp = s.clp) ∧
    (s.riu.policy.saleQuery = true →
      (∀ i e, s.sj.slot i = some e → e.fp = f → e.owner = .control) →
      exec (.saleQuery (fpByte f)) s = .next { s.heard with
        riu := { s.heard.riu with
          queue := fillFirst (.saleReport (fpByte f) .noEntry none) (s.riu.queue ++ [.reserved]) } }) ∧
    (s.riu.policy.saleQuery = true → ∀ i e, s.sj.slot i = some e → e.fp = f → e.owner = .reader →
      (∀ k d, s.sj.slot k = some d → d.fp = f → d.owner = .reader → k = i ∨ d.seq < e.seq) →
      exec (.saleQuery (fpByte f)) s = .next { s.heard with
        riu := { s.heard.riu with
          queue := (fillFirst (.saleReport (fpByte f) .ok (some
            { seq := e.seq, state := e.state, token := e.token, limit := e.limit, level := e.level
              sale := e.sale.map (fun x => (x.grade, x.price, x.volume, x.money))
              reason := e.ended.map Prod.snd, flags := e.flags, settledBy := e.settled.map Prod.fst }))
            (s.riu.queue ++ [.reserved])) } }) ∧
    (∀ i e (seq : BitVec 32), s.riu.policy.settle = true → s.sj.numbered → s.sj.slot i = some e →
      e.seq = seq.toNat → e.fp = f → e.owner = .reader → e.state = .unsettled →
      ∃ t, exec (.settle (fpByte f) seq e.token) s = .next t ∧
        t.sj.slot i = some { e with state := .settled, settled := some (.reader, s.sps.time) } ∧
        (∀ k, k ≠ i → t.sj.slot k = s.sj.slot k) ∧ t.sj.totals = s.sj.totals ∧
        t.riu.queue = fillFirst (.settleReply (fpByte f) .ok e.seq) (s.riu.queue ++ [.reserved]) ∧
        t.fpc = s.fpc ∧ t.nu = s.nu ∧ t.clp = s.clp ∧ t.psg = s.psg)

/-- From R134, R136 and R137: a permitted PROMPT of 1 to 32 bytes joins the tail of the pass-through queue and raises
PASSTHROUGH_READY; at eight entries it is dropped, and raises PASSTHROUGH_OVERRUN only if the overrun flag was clear.
A TEXT_ACK with the number of the HOST_TEXT in stage SENT completes it SENT_OK; one with another number is ignored,
and at the third answer the HOST_TEXT completes FAILED with 4 more on SEC. -/
def Obligations.PromptsAndTextAcks : Prop :=
  ∀ (fp : Byte) (text : List Byte) (s : State),
    (s.hears → s.riu.policy.prompt = true → fp.toNat ≤ 2 → 1 ≤ text.length → text.length ≤ 32 →
      (s.riu.passThrough.length < 8 →
        exec (.prompt fp text) s = .next (State.raise { s.heard with
          riu := { s.heard.riu with passThrough := s.riu.passThrough ++ [⟨fp, text⟩] } } .passthroughReady)) ∧
      (8 ≤ s.riu.passThrough.length →
        exec (.prompt fp text) s = .next (if s.riu.overrun then s.heard
          else State.raise { s.heard with riu := { s.heard.riu with overrun := true } } .passthroughOverrun))) ∧
    (∀ number : Byte, s.resetHeld = none → s.riu.awaiting = true → s.riu.link = .active → s.riu.sendErrors ≤ 80 →
      s.riu.recvErrors ≤ 80 → s.riu.textStage = .sent → s.riu.policy.textAck = true →
      (s.riu.textNumber = number.toNat →
        exec (.textAck fp number) s = .next { s.heard with
          riu := { s.heard.riu with
            answersSeen := s.riu.answersSeen + 1, textStage := .none, completion := .sentOk } }) ∧
      (s.riu.textNumber ≠ number.toNat → s.riu.answersSeen < 2 →
        exec (.textAck fp number) s = .next { s.heard with
          riu := { s.heard.riu with answersSeen := s.riu.answersSeen + 1 } }) ∧
      (s.riu.textNumber ≠ number.toNat → 2 ≤ s.riu.answersSeen → s.riu.sendErrors ≤ 76 →
        exec (.textAck fp number) s = .next { s.heard with
          riu := { s.heard.riu with
            answersSeen := s.riu.answersSeen + 1, textStage := .none, completion := .failed
            sendErrors := s.riu.sendErrors - 1 + 4 } }))

/-! ### The display bus -/

/-- From R28, R34, R35, R53 to R55, R59, R86 and R93 to R98: with the supply on and the bus IDLE, the module after the
rotation pointer, if it is OK with its first field dirty, has that field written with its value to show and its dirty
flag cleared; an acknowledged WRITE is followed by its CHECK; a CHECK answered with the check byte over the written
codes and status 0 verifies the field, leaves the bus IDLE and moves the rotation pointer. A panel settled so has its
applied generation proved (R86), and an ARMED fueling point in PRICE_WAIT whose start check then passes enters
STARTING; a main display that shows the sale's values begins FUELING (R55) in phase FAST with the starting duties, or
past its slow point in SLOW with them scaled, and past its close point it stops at once; and where MONEY or VOLUME has
waited over 1000 ms unreported, it stops with DISPLAY_FAULT instead (R60, R105; ages are clock differences, assumption
39). -/
def Obligations.FieldUpdateWritesAndVerifies : Prop :=
  ∀ (s : State), s.resetHeld = none →
    (s.sps.displaySupply = true → s.dbc.bus = .idle none → (s.module s.dbc.rotation.succ).state = .ok →
      (s.field s.dbc.rotation.succ .f1).dirty = true →
      ∃ t, exec .fieldUpdateStart s = .next t ∧
        t.dbc.bus = .busy ⟨s.dbc.rotation.succ, .f1, s.toShow s.dbc.rotation.succ .f1, false, .write⟩ ∧
        t.field s.dbc.rotation.succ .f1 = { s.field s.dbc.rotation.succ .f1 with dirty := false } ∧
        (∀ m p, m ≠ s.dbc.rotation.succ ∨ p ≠ .f1 → t.field m p = s.field m p) ∧
        t.dbc.rotation = s.dbc.rotation ∧ t.pru = s.pru ∧ t.fpc = s.fpc ∧ t.nu = s.nu ∧ t.sps = s.sps) ∧
    (s.sps.displaySupply = false → exec .fieldUpdateStart s = .next s) ∧
    (∀ u, s.dbc.bus = .busy u → u.doing = .write → s.sps.stage ≠ .s3 →
      exec (.displayWriteEnd true) s = .next { s with dbc := { s.dbc with bus := .busy { u with doing := .check } } }) ∧
    (∀ u, s.dbc.bus = .busy u → u.doing = .check → s.sps.stage ≠ .s3 → s.sps.seq ≠ .closing →
      (s.module u.module).stage = .none → (u.module.isPanel = true → (s.fp u.module.fp).waiting ≠ .priceWait) →
      ∃ t, exec (.displayCheckEnd
          (some (BitVec.ofNat 8 (u.field.id + (u.written.map BitVec.toNat).sum), 0))) s = .next t ∧
        t.dbc.bus = .idle none ∧ t.dbc.rotation = u.module ∧
        (t.field u.module u.field).verified = some u.written ∧
        (t.field u.module u.field).dirty = (s.field u.module u.field).dirty ∧
        (t.module u.module).state = (s.module u.module).state ∧ (t.module u.module).stage = .none ∧
        (∀ m, m ≠ u.module → t.module m = s.module m) ∧
        (u.module.isPanel = true → t.panelSettled u.module = true →
          t.pru.panelVerified.get u.module.fp = some (s.fp u.module.fp).appliedGen ∧ t.fpc = s.fpc) ∧
        (∀ r, u.module = u.module.fp.main → (s.fp u.module.fp).state = .starting →
          (s.fp u.module.fp).sale = some r → (s.fp u.module.fp).saleNozzleUp = true →
          s.needed r.t .running = true → s.sps.seq = .opened →
          ((t.fp u.module.fp).state = .fueling ∨ (t.fp u.module.fp).state = .stopping ↔
            t.mainShows u.module.fp r.money r.volumeCl r.price = true) ∧
          (t.mainShows u.module.fp r.money r.volumeCl r.price = true → ∀ dl dh : Nat,
            dl = (if 0 < r.t ∧ r.t < 1000 then max 50 (s.sus.image.fastDuty * (1000 - r.t) / 1000)
              else if r.t = 0 then s.sus.image.fastDuty else 0) →
            dh = (if 0 < r.t ∧ r.t < 1000 then max 50 (s.sus.image.fastDuty * r.t / 1000)
              else if r.t = 0 then 0 else s.sus.image.fastDuty) →
            (r.closePoint ≤ r.volume → (t.field u.module .f1).dirtySince = none →
              (t.field u.module .f2).dirtySince = none →
              (t.fp u.module.fp).state = .stopping ∧ (t.fp u.module.fp).valvesShut ∧
                (t.fp u.module.fp).stopCause = some (if r.closeKind = .preset then .preset else .ceiling)) ∧
            (∀ p c, p = .f1 ∨ p = .f2 → p ≠ u.field → (s.field u.module p).dirtySince = some c →
              (s.field u.module p).staleReported = false → 1000000 < (s.miu.clock - c).toNat →
              (s.module u.module).state ≠ .failed →
              (t.fp u.module.fp).state = .stopping ∧ (t.fp u.module.fp).valvesShut ∧
                (t.fp u.module.fp).stopCause = some .displayFault ∧ (t.nu.get .displayFault).pending = true) ∧
            (r.volume < r.closePoint → (t.field u.module .f1).dirtySince = none →
              (t.field u.module .f2).dirtySince = none →
              ∃ r', (t.fp u.module.fp).state = .fueling ∧ (t.fp u.module.fp).sale = some r' ∧
                (t.fp u.module.fp).noFlowTimer = some (s.sus.image.noFlow * 1000000) ∧
                (r.volume < r.slowPoint → r'.phase = some .fast ∧ r'.dutyL = dl ∧ r'.dutyH = dh) ∧
                (r.slowPoint ≤ r.volume → r'.phase = some .slow ∧
                  r'.dutyL = (if dl = 0 then 0 else max (if 0 < r.t ∧ r.t < 1000 then 50 else 1)
                    (dl * s.sus.image.slowDuty / s.sus.image.fastDuty)) ∧
                  r'.dutyH = (if dh = 0 then 0 else max (if 0 < r.t ∧ r.t < 1000 then 50 else 1)
                    (dh * s.sus.image.slowDuty / s.sus.image.fastDuty))) ∧
                ((s.fp u.module.fp).valveL = none → (t.fp u.module.fp).valveL =
                  if r'.dutyL = 0 then none else some ⟨r'.dutyL, true, some (r'.dutyL * s.sus.image.valvePeriod)⟩) ∧
                ((s.fp u.module.fp).valveH = none → (t.fp u.module.fp).valveH =
                  if r'.dutyH = 0 then none
                  else some ⟨r'.dutyH, true, some (r'.dutyH * s.sus.image.valvePeriod)⟩)))) ∧
        t.riu = s.riu ∧ t.psg = s.psg ∧ t.sps = s.sps ∧ t.clp = s.clp ∧ t.sus = s.sus ∧ t.miu = s.miu) ∧
    (∀ u a n g, s.dbc.bus = .busy u → u.doing = .check → s.sps.stage ≠ .s3 → s.sps.seq ≠ .closing →
      (s.module u.module).stage = .none → u.module.isPanel = true → (s.fp u.module.fp).state = .armed →
      (s.fp u.module.fp).waiting = .priceWait → (s.fp u.module.fp).auth = some a →
      (s.fp u.module.fp).upList = [n] → (s.sus.image.hose.get u.module.fp).get n = some g →
      s.sus.image.defined g = true → gradeIn a.grades g = true →
      (s.fp u.module.fp).appliedGen = s.pru.generation →
      (∀ p, (s.meter (u.module.fp.meter p)).faulty = false) →
      (∀ p, needsPump (s.sus.image.perMille g) p = true → (s.pump p).state = .off) →
      ∃ t, exec (.displayCheckEnd
          (some (BitVec.ofNat 8 (u.field.id + (u.written.map BitVec.toNat).sum), 0))) s = .next t ∧
        (t.panelSettled u.module = true →
          t.pru.panelVerified.get u.module.fp = some s.pru.generation ∧ (t.fp u.module.fp).state = .starting ∧
            (t.fp u.module.fp).waiting = .none ∧ (t.fp u.module.fp).saleNozzle = some n ∧
            (t.fp u.module.fp).auth = some a))

/-- From R97, R99, R43, R61 and R63: a WRITE that is not acknowledged, or a CHECK that is not answered or answered
wrong, is tried once more; when that try fails too the module is FAILED, its fields are dirty, DISPLAY_FAULT is raised
for its fueling point, which holds closed cause DISPLAY and, being IDLE, is LOCKED. -/
def Obligations.SecondFailedTryFailsTheModule : Prop :=
  ∀ (c : Instr) (u : Update) (s : State), s.resetHeld = none → s.dbc.bus = .busy u → s.sps.stage ≠ .s3 →
    (c = .displayWriteEnd false ∧ u.doing = .write) ∨
      (u.doing = .check ∧ ∃ answer, c = .displayCheckEnd answer ∧
        answer ≠ some (BitVec.ofNat 8 (u.field.id + (u.written.map BitVec.toNat).sum), 0)) →
    (u.try2 = false →
      ∃ t, exec c s = .next t ∧ t.dbc.bus = .busy ⟨u.module, u.field, s.toShow u.module u.field, true, .write⟩ ∧
        (t.field u.module u.field).dirty = false ∧
        (t.field u.module u.field).verified = (s.field u.module u.field).verified ∧
        (∀ m, m ≠ u.module → t.module m = s.module m) ∧ t.fpc = s.fpc ∧ t.nu = s.nu ∧ t.sps = s.sps) ∧
    (u.try2 = true → s.sps.seq ≠ .closing → (s.module u.module).stage = .none →
      ∃ t, exec c s = .next t ∧ t.dbc.bus = .idle none ∧ t.dbc.rotation = u.module ∧
        (t.module u.module).state = .failed ∧ (∀ p, (t.field u.module p).dirty = true) ∧
        ((s.fp u.module.fp).state ≠ .starting → ∀ m, m ≠ u.module → t.module m = s.module m) ∧
        t.nu.get .displayFault = (s.nu.get .displayFault).raisedFor u.module.fp ∧
        (t.fp u.module.fp).closedCauses.display = true ∧
        ((s.fp u.module.fp).state = .idle →
          (t.fp u.module.fp).state = .locked ∧ (t.fp u.module.fp).lockCauses = ⟨false, true, false, false⟩) ∧
        ((s.fp u.module.fp).state = .fueling → u.module = u.module.fp.main → (s.fp u.module.fp).sale ≠ none →
          (t.fp u.module.fp).state = .stopping ∧ (t.fp u.module.fp).stopCause = some .displayFault) ∧
        t.fp u.module.fp.other = s.fp u.module.fp.other ∧ t.sps = s.sps ∧ t.clp = s.clp ∧ t.miu = s.miu)

/-- From R56, R61, R100 to R102 and R105: a bus error abandons the field update, whose field is dirty again, and
begins a recovery; one that ends with the data line released leaves the bus IDLE to make that update again; one that
does not leaves it STUCK with all four modules FAILED and DISPLAY_FAULT raised for both fueling points (assumption 21;
told FP1 first, assumption 53): one that is CLOSED stays CLOSED with DISPLAY, one outside a sale is LOCKED, one in
FUELING stops with DISPLAY_FAULT, one in STARTING ends with it and is LOCKED. A stale MONEY or VOLUME stops a FUELING
sale. -/
def Obligations.BusErrorsAndStaleFields : Prop :=
  ∀ s : State, s.resetHeld = none →
    (∀ u, s.dbc.bus = .busy u → ∃ t, exec .busError s = .next t ∧
      t.dbc.bus = .recovering false (some (u.module, u.field)) ∧ (t.field u.module u.field).dirty = true ∧
      (∀ m, m ≠ u.module → t.module m = s.module m) ∧ t.fpc = s.fpc ∧ t.nu = s.nu ∧ t.sps = s.sps) ∧
    (∀ resume, s.dbc.bus = .recovering false resume → s.sps.stage ≠ .s3 →
      exec (.busRecoveryEnd true) s = .next { s with dbc := { s.dbc with bus := .idle resume } } ∧
      (s.sps.seq ≠ .closing → ∃ t, exec (.busRecoveryEnd false) s = .next t ∧ t.dbc.bus = .stuck ∧
        (∀ m, (t.module m).state = .failed) ∧ (t.nu.get .displayFault).pending = true ∧
        (∀ f, (t.nu.get .displayFault).fps.get f = true ∧ (t.fp f).closedCauses.display = true ∧
          ((s.fp f).state = .closed → (t.fp f).state = .closed) ∧
          ((s.fp f).state = .idle ∨ (s.fp f).state = .calling ∨ (s.fp f).state = .ended ∨ (s.fp f).state = .locked →
            (t.fp f).state = .locked ∧ (t.fp f).lockCauses.display = true) ∧
          (∀ r, (s.fp f).state = .fueling → (s.fp f).sale = some r →
            (t.fp f).state = .stopping ∧ (t.fp f).stopCause = some .displayFault ∧ (t.fp f).valvesShut) ∧
          (∀ r a, (s.fp f).state = .starting → (s.fp f).sale = some r → (s.fp f).auth = some a → s.entriesHeld →
            s.endsFromStarting t f r a .displayFault ∧ (t.fp f).state = .locked)))) ∧
    (∀ (f : Fp) (w : WatchedField) (r : Sale), (s.fp f).state = .fueling → (s.fp f).sale = some r →
      (s.module f.main).state ≠ .failed → s.dbc.bus ≠ .stuck →
      (s.field f.main w.pos).dirtySince.isSome → (s.field f.main w.pos).staleReported = false →
      ∃ t, exec (.fieldStale f w) s = .next t ∧ (t.fp f).state = .stopping ∧
        (t.fp f).stopCause = some .displayFault ∧ (t.fp f).valvesShut ∧
        t.nu.get .displayFault = (s.nu.get .displayFault).raisedFor f ∧
        (t.field f.main w.pos).staleReported = true ∧ t.fp f.other = s.fp f.other ∧ t.sj = s.sj ∧ t.psg = s.psg)

/-! ### Notices and reports -/

/-- From R12 and R208 to R210: GET_NOTICES lists the pending kinds in priority order, each as number, count and a byte
of pending set and enable, and changes nothing; CLEAR_NOTICES clears the pending kinds its mask names, METER_CREEP with
every creep volume and raised flag (only where it is named and pending: the model's reading, assumption 34);
SET_NOTICE_ENABLES gives every kind its bit, and ATTN follows. Nothing else changes. -/
def Obligations.NoticesAreReadClearedAndEnabled : Prop :=
  ∀ (mask : BitVec 24) (s : State), s.takesRequests →
    (∃ items, exec .getNotices s = .next (s.answered .getNotices 0x82 .ok (.notices items)) ∧
      items = (NoticeKind.all.filter (fun k => (s.nu.get k).pending)).map
        (fun k => ⟨k.index.val + 1, (s.nu.get k).count, (s.nu.get k).fps, (s.nu.get k).enable⟩) ∧
      bodyBytes (.notices items) = some (BitVec.ofNat 8 items.length :: items.flatMap (fun x =>
        [BitVec.ofNat 8 x.number, BitVec.ofNat 8 x.count,
          BitVec.ofNat 8 (x.fps.fp1.toNat + 2 * x.fps.fp2.toNat + 128 * x.enable.toNat)]))) ∧
    (∃ t, exec (.clearNotices mask) s = .next t ∧
      t = { s with
        clp := s.clp.answering (.clearNotices mask) 0x83 .ok .none 0
        nu := t.nu
        miu := { s.miu with meters := t.miu.meters } } ∧
      (∀ k, t.nu.get k =
        if mask.getLsbD k.index.val = true ∧ (s.nu.get k).pending = true then
          { s.nu.get k with pending := false, count := 0, fps := ⟨false, false⟩ }
        else s.nu.get k) ∧
      ∀ m, t.meter m =
        if mask.getLsbD 21 = true ∧ (s.nu.get .meterCreep).pending = true then
          { s.meter m with creep := 0, creepRaised := false }
        else s.meter m) ∧
    ∃ t, exec (.setNoticeEnables mask) s = .next t ∧
      t = { s with clp := s.clp.answering (.setNoticeEnables mask) 0x89 .ok .none 0, nu := t.nu } ∧
      (∀ k, t.nu.get k = { s.nu.get k with enable := mask.getLsbD k.index.val }) ∧
      (t.nu.attn = true ↔ ∃ k : NoticeKind, (s.nu.get k).pending = true ∧ mask.getLsbD k.index.val = true)

/-- From R205, R10, R40, R111, R162, R67, R89, R139, R174, R184, R197 and R200: GET_STATUS answers its four parts in every
sequencer state and refuses the others; FP_STATUS, PRICE_STATUS and READER_STATUS answer in every state but
RECOVERING. Each shows every item of its table (Tables 10-3, 3-8, 1-7 and
2-6 and the lists of R184, R89 and R139) as the state holds it, METSW at the level of the moment (carried by the row: the model's
choice, assumption 8), and nothing but the link changes. The stage timer shown is the stage's, or with none running
the warm-up's (the model's reading, assumption 38), and times left are shown in microseconds (the model's choice,
assumption 62). States are coded from 0 in the order their rules list them. A pending price set is shown with its
activation kind AT, its seconds, its prices and the generation it will take. -/
def Obligations.ReportsShowTheStateAsItStands : Prop :=
  ∀ (part : Byte) (closed : Bool) (f : Fp) (s : State) (shows : Byte → Result → Body → State), s.resetHeld = none →
    s.clp.outstanding = none →
    (∀ p r x, shows p r x =
      { s.answered (.getStatus p) 0x81 r x with pins := { s.pins with metsw := closed } }) →
    (∃ d, exec (.getStatus ⟨0, closed⟩) s = .next (shows 0 .ok (.site d)) ∧
      d = {
        seq := s.sps.seq, stage := s.sps.stage, frozenFrom := s.sps.frozenFrom, resume := s.sps.resume
        wantedOpen := s.sps.wantedOpen, time := s.sps.time, auto := s.sps.schedule.auto
        warning := s.sps.warning, ambient := s.sps.ambient, heater := s.sps.heater, cold := s.sps.cold
        warmUp := s.sps.warmUp, pulserSupply := s.sps.pulserSupply, displaySupply := s.sps.displaySupply
        domain := s.sps.domain, closeGrace := s.sps.closeGrace, heatTimer := s.sps.heatTimer
        stageTimer := d.stageTimer, cycleTimer := s.sps.cycleTimer, holdTimers := s.sps.holdTimers
        lastReset := s.sps.lastReset, interrupted := s.sps.interruptedCount, freed := s.sps.freedCount
        setupMode := s.sus.edit.isSome, settingsLost := s.sus.settingsLost, metsw := closed
        rate := s.clp.rate, linkErrors := s.clp.linkErrors, attn := d.attn
        kindsPending := ((List.finRange 24).filter (fun i => (s.nu.kinds.get i).pending)).length } ∧
      (∀ left, s.sps.stageTimer = some left → d.stageTimer = some left) ∧
      (s.sps.stageTimer = none → d.stageTimer = s.sps.warmTimer) ∧
      (d.attn = true ↔ ∃ k, (s.nu.get k).pending = true ∧ (s.nu.get k).enable = true) ∧
      (Body.site d).codes.head? = some (match s.sps.seq with
        | .recovering => 0
        | .night => 1
        | .waking => 2
        | .opened => 3
        | .closing => 4
        | .shutting => 5
        | .frozen => 6)) ∧
    (∃ d, exec (.getStatus ⟨1, closed⟩) s = .next (shows 1 .ok (.display d)) ∧
      d.bus = (match s.dbc.bus with
        | .idle _ => .idle
        | .busy _ => .busy
        | .recovering _ _ => .recovering
        | .stuck => .stuck) ∧
      ∀ m, ∃ x, d.modules.get m = ((s.module m).address, (s.module m).state, (s.module m).stage, x) ∧
        ∀ p, x.get p = ((s.field m p).dirty, (s.field m p).verified.isSome)) ∧
    (∃ d gap, exec (.getStatus ⟨2, closed⟩) s = .next (shows 2 .ok (.pumps d s.psg.queue gap)) ∧
      (∀ p, (d.get p).state = (s.pump p).state ∧ (d.get p).demand = (s.pump p).demand ∧
        (d.get p).cause = (s.pump p).cause ∧ (d.get p).feedback = s.pins.feedback.get p ∧
        (d.get p).timer = ((s.pump p).feedbackTimer.or (s.pump p).primeTimer).or (s.pump p).runOnTimer) ∧
      gap = if s.sus.image.inrushGap * 1000 ≤ s.psg.sinceStart then none
        else some (s.sus.image.inrushGap * 1000 - s.psg.sinceStart)) ∧
    exec (.getStatus ⟨3, closed⟩) s = .next (shows 3 .ok (.schedule s.sps.schedule)) ∧
    (3 < part.toNat → exec (.getStatus ⟨part, closed⟩) s = .next (shows part .badField .none)) ∧
    (s.sps.seq ≠ .recovering →
      (∃ d, exec (.fpStatus (fpByte f)) s = .next (s.answered (.fpStatus (fpByte f)) 0x93 .ok (.fpStatus d)) ∧
        d = {
          state := (s.fp f).state, closedCauses := (s.fp f).closedCauses, lockCauses := (s.fp f).lockCauses
          lockAfterSale := (s.fp f).lockAfterSale, waiting := (s.fp f).waiting, nozzleUp := (s.fp f).nozzleUp
          saleNozzle := (s.fp f).saleNozzle
          auth := (s.fp f).auth.map (fun a =>
            ⟨a.owner, a.token, a.limit, a.level, a.grades, (s.fp f).expiryTimer, a.slot, a.seq⟩)
          stopCause := (s.fp f).stopCause, appliedGen := (s.fp f).appliedGen, lastEnd := (s.fp f).lastEnd
          low := d.low, high := d.high, sale := d.sale } ∧
        (Body.fpStatus d).codes.head? = some (match (s.fp f).state with
          | .closed => 0
          | .idle => 1
          | .calling => 2
          | .armed => 3
          | .starting => 4
          | .fueling => 5
          | .stopping => 6
          | .ended => 7
          | .locked => 8) ∧
        (∀ p : Product, (match p with
          | .low => d.low
          | .high => d.high) = {
            faulty := (s.meter (f.meter p)).faulty, cause := (s.meter (f.meter p)).cause
            backlash := (s.meter (f.meter p)).backlash
            flow := ((s.meter (f.meter p)).bin0 + (s.meter (f.meter p)).bin1 + (s.meter (f.meter p)).bin2 +
              (s.meter (f.meter p)).bin3) * 60 / 1000000
            noise := (s.meter (f.meter p)).noise, reverse := (s.meter (f.meter p)).reverse }) ∧
        ((s.fp f).sale = none → d.sale = none) ∧
        (∀ r, (s.fp f).sale = some r → d.sale = some {
          volume := r.volume, volumeCl := r.volumeCl, money := r.money, accL := r.accL / 1000000
          accH := r.accH / 1000000, price := r.price, limit := r.limit, target := r.target
          closeKind := r.closeKind, slowPoint := r.slowPoint, closePoint := r.closePoint, an := r.an
          phase := r.phase, topUpDone := r.topUpDone, dutyL := r.dutyL, dutyH := r.dutyH
          share := if r.accL + r.accH = 0 then none else some (r.accH * 1000 / (r.accL + r.accH))
          flags := r.flags, overShort := r.overShort })) ∧
      (fpOfByte part = none → exec (.fpStatus part) s = .next (s.answered (.fpStatus part) 0x93 .badField .none)) ∧
      (∃ d, exec .priceStatus s = .next (s.answered .priceStatus 0xA2 .ok (.prices d)) ∧
        d.generation = s.pru.generation ∧ d.current = s.pru.current ∧ d.timeValid = s.sps.time.valid ∧
        d.adoptionDue = s.pru.adoptionDue ∧ d.panelVerified = s.pru.panelVerified ∧
        d.appliedGen.get f = (s.fp f).appliedGen ∧
        (s.pru.pendingSet = none → d.pendingSet = none) ∧
        ∀ p, s.pru.pendingSet = some p →
          d.pendingSet =
            some ⟨.timed, p.atSeconds, p.set, if s.pru.generation < 65535 then s.pru.generation + 1 else 1⟩) ∧
      ∃ d, exec .readerStatus s = .next (s.answered .readerStatus 0xC0 .ok (.reader d)) ∧
        d = {
          link := s.riu.link, sendErrors := s.riu.sendErrors, recvErrors := s.riu.recvErrors
          goodRun := s.riu.goodRun, domain := s.sps.domain, holdoff := s.riu.holdoff
          queued := s.riu.queue.length, lostPushes := s.riu.lostPushes, rejected := s.riu.rejected
          completion := s.riu.completion, textNumber := s.riu.textCounter, textStage := s.riu.textStage
          passThrough := s.riu.passThrough.length, overrun := s.riu.overrun, policy := s.riu.policy })

/-- From R18, R150, R151 and R158: JOURNAL_STATUS's counts of the five slot states make up the 32 slots, UNSETTLED
also split by owner, and an exhausted number is given as 4,294,967,295 (the model's choice, assumption 57); READ_SALE
finds the entry of a sequence number, or NO_ENTRY; READ_TOTALS gives the three parts of the block, volumes of meters
in whole millilitres; READ_AUDIT gives up to six samples, newest first from the one skipped to. Nothing but the link
changes. -/
def Obligations.StoreIsReadWithoutChange : Prop :=
  ∀ (seq : BitVec 32) (skip : Byte) (s : State), s.takesRequests →
    (∃ d, exec .journalStatus s = .next (s.answered .journalStatus 0xB3 .ok (.journal d)) ∧
      d.free + d.reserved + d.active + d.unsettled + d.settled = 32 ∧
      d.unsettled = d.unsettledControl + d.unsettledReader ∧
      (d.free = 32 ↔ ∀ i, s.sj.slot i = none) ∧ d.nextSeq = min 4294967295 s.sj.nextSeq ∧
      (d.exhausted = true ↔ 4294967295 < s.sj.nextSeq) ∧
      d.threshold = s.sus.image.lowThreshold ∧ d.lowArmed = s.sj.lowArmed ∧
      (d.oldestSettled = none ↔ d.settled = 0)) ∧
    ((∀ i e, s.sj.slot i = some e → e.seq ≠ seq.toNat) →
      exec (.readSale 0 seq) s = .next (s.answered (.readSale 0 seq) 0xB0 .noEntry .none)) ∧
    (∀ i e, s.sj.numbered → s.sj.slot i = some e → e.seq = seq.toNat →
      exec (.readSale 0 seq) s = .next (s.answered (.readSale 0 seq) 0xB0 .ok (.entry i e))) ∧
    exec (.readTotals 0) s = .next (s.answered (.readTotals 0) 0xB4 .ok
      (.totalsMeters (s.sj.totals.meterVolume.map (· / 1000000)) (s.sj.totals.unassigned.map (· / 1000000)))) ∧
    exec (.readTotals 1) s = .next (s.answered (.readTotals 1) 0xB4 .ok
      (.totalsGrades s.sj.totals.gradeVolume s.sj.totals.gradeMoney)) ∧
    exec (.readTotals 2) s = .next (s.answered (.readTotals 2) 0xB4 .ok
      (.totalsOther s.sj.totals.saleCount s.sj.totals.calibrations s.sj.totals.lastCalibration s.sj.anticipation
        s.sj.totalsCorrupt)) ∧
    (2 < skip.toNat → exec (.readTotals skip) s = .next (s.answered (.readTotals skip) 0xB4 .badField .none)) ∧
    (15 < skip.toNat → exec (.readAudit skip) s = .next (s.answered (.readAudit skip) 0xE0 .badField .none)) ∧
    (∀ x : Nat → Sample, skip.toNat ≤ 15 →
      (∀ k, k < s.miu.count → s.miu.ring.get (s.miu.newest - Fin.ofNat 16 k) = some (x k)) →
      exec (.readAudit skip) s = .next (s.answered (.readAudit skip) 0xE0 .ok
        (.samples s.miu.newest s.miu.count
          ((List.range (min 6 (s.miu.count - skip.toNat))).map (fun k => x (skip.toNat + k))))))

/-! ### The site day -/

/-- From R164 with Table 8-3, R165 to R167, R74, R181 and R183: SITE_OPEN and SITE_CLOSE are answered by the sequencer
state; OK sets the wanted site state and the sequencer responds. With no fueling point ARMED or in a sale SITE_CLOSE
passes to S1 of SHUTTING: both are CLOSED by the site, the pumps off, the holds ended, a cold opening over. With no
contactor to open S1 passes at once to S2, which switches the reader domain off (R120). RESTART is refused for a force
above 1, BUSY with force 0 in a sale, and otherwise answered OK with the reset to follow the reply. -/
def Obligations.SiteMessagesMoveTheSequencer : Prop :=
  ∀ (force : Byte) (s : State), s.takesRequests →
    (s.sps.seq = .shutting ∨ s.sps.seq = .frozen →
      exec .siteOpen s = .next (s.answered .siteOpen 0x85 .busy .none)) ∧
    (s.sps.seq ≠ .shutting → s.sps.seq ≠ .frozen →
      ∃ t, exec .siteOpen s = .next t ∧ t.clp = s.clp.answering .siteOpen 0x85 .ok .none 0 ∧
        t.sps.wantedOpen = true ∧
        t.sps.seq = (match s.sps.seq with
          | .night => if s.sps.warning then .frozen else .waking
          | .closing => .opened
          | x => x) ∧
        (s.sps.seq = .waking ∨ s.sps.seq = .opened →
          t = { s with clp := t.clp, sps := { s.sps with wantedOpen := true } })) ∧
    (s.sps.seq = .night ∨ s.sps.seq = .closing ∨ s.sps.seq = .shutting →
      exec .siteClose s = .next (s.answered .siteClose 0x86 .already .none)) ∧
    (s.sps.seq = .frozen → exec .siteClose s = .next (s.answered .siteClose 0x86 .busy .none)) ∧
    (s.sps.seq = .waking ∨ s.sps.seq = .opened →
      ∃ t, exec .siteClose s = .next t ∧ t.clp = s.clp.answering .siteClose 0x86 .ok .none 0 ∧
        t.sps.wantedOpen = false ∧ t.sps.seq ≠ .waking ∧ t.sps.seq ≠ .opened ∧
        (∀ f, s.sps.seq = .opened → (s.fp f).state = .fueling → 0 < s.sus.image.closeGrace →
          t.sps.seq = .closing ∧ t.sps.closeGrace = some (s.sus.image.closeGrace * 60000000) ∧
            t.fp f = s.fp f) ∧
        ((∀ f, (s.fp f).state ≠ .armed ∧ s.inSale f = false) → s.psg.queue = [] →
          (∀ p, (s.pump p).state ≠ .starting ∧ (s.pump p).state ≠ .priming ∧ (s.pump p).state ≠ .runOn) →
          s.sps.domain ≠ .off →
          t.sps.seq = .shutting ∧ t.sps.stage = .s2 ∧ t.sps.stageTimer = some (s.sus.image.settle * 1000) ∧
            t.sps.closeGrace = none ∧ t.sps.cold = false ∧ t.sps.heatTimer = none ∧ t.sps.warmUp = .none ∧
            t.sps.domain = .off ∧ t.sps.cycleTimer = none ∧ t.riu.link = .off ∧ t.riu.queue = [] ∧
            t.riu.exchangeTimer = none ∧ t.sps.displaySupply = s.sps.displaySupply ∧ t.psg = s.psg ∧
            ∀ f, (t.fp f).closedCauses.site = true ∧ (t.fp f).closedCauses.cold = false ∧
              t.sps.holdTimers.get f = none ∧
              (t.fp f).state = if (s.fp f).state = .locked then .locked else .closed) ∧
        ((∀ f, (s.fp f).state ≠ .armed ∧ s.inSale f = false) → s.psg.queue = [] →
          (∃ p, (s.pump p).state = .starting ∨ (s.pump p).state = .priming ∨ (s.pump p).state = .runOn) →
          t.sps.seq = .shutting ∧ t.sps.stage = .s1 ∧ t.sps.stageTimer = some (s.sus.image.settle * 1000) ∧
            t.sps.closeGrace = none ∧ t.sps.cold = false ∧ t.sps.heatTimer = none ∧ t.sps.warmUp = .none ∧
            t.sps.warmTimer = none ∧ t.sps.domain = s.sps.domain ∧ t.sps.displaySupply = s.sps.displaySupply ∧
            (∀ p, (t.pump p).state =
              if (s.pump p).state = .starting ∨ (s.pump p).state = .priming ∨ (s.pump p).state = .runOn then .off
              else (s.pump p).state) ∧
            ∀ f, (t.fp f).closedCauses.site = true ∧ (t.fp f).closedCauses.cold = false ∧
              t.sps.holdTimers.get f = none ∧
              (t.fp f).state = if (s.fp f).state = .locked then .locked else .closed)) ∧
    (1 < force.toNat → exec (.restart force) s = .next (s.answered (.restart force) 0x87 .badField .none)) ∧
    (force.toNat = 0 → (∃ f, s.inSale f = true) →
      exec (.restart force) s = .next (s.answered (.restart force) 0x87 .busy .none)) ∧
    (force.toNat ≤ 1 → force.toNat = 1 ∨ (∀ f, s.inSale f = false) →
      exec (.restart force) s = .next { s.answered (.restart force) 0x87 .ok .none with
        clp := { (s.answered (.restart force) 0x87 .ok .none).clp with
          outstanding := some ⟨some (.restart force), ⟨0x87, .ok, .none⟩, 0, true⟩ } })

/-- From R161 to R163 and R81: the scheduled state is that of the weekday's entry, Monday first. SET_TIME sets the
counter, valid, with the next step one second later, activates a pending price set due at that second, and in AUTO
takes the wanted site state from the schedule; seconds of 86400 or more are refused. SET_SCHEDULE replaces the
schedule, asks for a store write its reply waits for, and leaves the wanted state; a mode other than AUTO and MANUAL
is refused, naming weekday 0. The reply waits for every write asked for before it and its own (R186, R204): the count
of writes is the model's reading (assumption 27). -/
def Obligations.TimeAndScheduleAreSet : Prop :=
  ∀ (day : BitVec 16) (seconds : BitVec 24) (mode : Byte) (days : PerDay RawDay) (s : State), s.takesRequests →
    (∀ (x : Schedule) (now : Stamp), x.openAt now =
      match (match now.day % 7 with
        | 0 => x.days.mon
        | 1 => x.days.tue
        | 2 => x.days.wed
        | 3 => x.days.thu
        | 4 => x.days.fri
        | 5 => x.days.sat
        | _ => x.days.sun) with
      | .openAllDay => true
      | .closedAllDay => false
      | .window o c => decide (o ≤ now.seconds ∧ now.seconds < c)) ∧
    (86400 ≤ seconds.toNat →
      exec (.setTime day seconds) s = .next (s.answered (.setTime day seconds) 0x84 .badField .none)) ∧
    (seconds.toNat < 86400 →
      ∃ t, exec (.setTime day seconds) s = .next t ∧ t.sps.time = ⟨day.toNat, seconds.toNat, true⟩ ∧
        t.sps.stepTimer = some 1000000 ∧
        t.sps.wantedOpen =
          (if s.sps.schedule.auto then s.sps.schedule.openAt ⟨day.toNat, seconds.toNat, true⟩
          else s.sps.wantedOpen) ∧
        (∀ p, s.pru.pendingSet = some p → p.atSeconds = seconds.toNat →
          t.pru.current = p.set ∧ t.pru.pendingSet = none ∧
            t.pru.generation = (if s.pru.generation < 65535 then s.pru.generation + 1 else 1)) ∧
        (s.sps.schedule.auto = false → (∀ p, s.pru.pendingSet = some p → p.atSeconds ≠ seconds.toNat) →
          t = { s with
            clp := s.clp.answering (.setTime day seconds) 0x84 .ok .none 0
            sps := { s.sps with time := ⟨day.toNat, seconds.toNat, true⟩, stepTimer := some 1000000 } })) ∧
    (1 < mode.toNat →
      exec (.setSchedule mode days) s = .next (s.answered (.setSchedule mode days) 0x88 .badField (.weekday 0))) ∧
    (∀ x : Schedule, mode.toNat ≤ 1 → (x.auto = true ↔ mode.toNat = 0) →
      (∀ n, n < 7 → match x.days.get n with
        | .openAllDay => (days.get n).kind.toNat = 0
        | .closedAllDay => (days.get n).kind.toNat = 1
        | .window o c => (days.get n).kind.toNat = 2 ∧ (days.get n).opens.toNat = o ∧
          (days.get n).closes.toNat = c ∧ o < c ∧ c < 86400) →
      ∃ t, exec (.setSchedule mode days) s = .next t ∧
        t = { s with
          clp := s.clp.answering (.setSchedule mode days) 0x88 .ok .none
            (if s.sus.settingsLost then 0 else match s.sus.writing with
              | none => 1
              | some w => w.queued + 2)
          sps := { s.sps with schedule := x }
          sus := { s.sus with writing := t.sus.writing } } ∧
        (s.sus.settingsLost = true → t.sus.writing = s.sus.writing) ∧
        (s.sus.settingsLost = false → s.sus.writing = none →
          ∃ w, t.sus.writing = some w ∧ w.queued = 0 ∧ w.items.schedule = x))

/-! ### Fueling point messages -/

/-- From R45, R46, R52 to R54, R142 and R147: an AUTHORIZE with its fields in order, presented in OPEN to an IDLE
fueling point or to a CALLING one, arms it for the control side with the limit and expiry in force, OK_CLAMPED if
either was clamped; its entry is RESERVED with the next sequence number in the lowest FREE slot, or with none in the
SETTLED one of the smallest number, and JOURNAL_LOW is raised by an armed flag at the threshold. With one nozzle up
that is not permitted the reply is GRADE_NOT_ALLOWED; with one that is, the start check runs at once: PRICE_WAIT,
STARTING with the sale's registers loaded, or with a needed pump FAILED an end with PUMP_FAIL. With two up it waits in
NOZZLE_CONFLICT. In any other state of the fueling point or the sequencer the reply is WRONG_STATE, with no slot to
reserve JOURNAL_FULL, with a field out of order BAD_FIELD, and nothing else changes. -/
def Obligations.AuthorizeArmsTheFuelingPoint : Prop :=
  ∀ s : State, s.takesRequests →
    (∀ (fp kind level grades : Byte) (value : BitVec 32) (expiry : BitVec 16) (token : Token),
      (fp ≠ 1 ∧ fp ≠ 2) ∨ 2 < kind.toNat ∨ (1 ≤ kind.toNat ∧ kind.toNat ≤ 2 ∧ value = 0) ∨
        (level ≠ 1 ∧ level ≠ 2) ∨ grades.toNat % 64 = 0 →
      exec (.authorize fp kind value level grades expiry token) s =
        .next (s.answered (.authorize fp kind value level grades expiry token) 0x90 .badField .none)) ∧
    ∀ (f : Fp) (kind : Byte) (value : BitVec 32) (limit : Limit) (clamped : Bool) (lv : Level) (grades : Byte)
      (expiry : BitVec 16) (inForce : Nat) (token : Token) (i : Fin 32) (left : Nat) (cmd : Instr) (r : Request)
      (result : Result) (a : Auth) (e : Entry),
    cmd = .authorize (fpByte f) kind value (BitVec.ofNat 8 (Level.number lv)) grades expiry token →
    r = .authorize (fpByte f) kind value (BitVec.ofNat 8 (Level.number lv)) grades expiry token →
    (kind = 0 ∧ limit = .none ∧ clamped = false) ∨
      (kind = 1 ∧ value ≠ 0 ∧ limit = .volume (min 99999 value.toNat) ∧ clamped = decide (99999 < value.toNat)) ∨
      (kind = 2 ∧ value ≠ 0 ∧ limit = .money (min 999899 value.toNat) ∧ clamped = decide (999899 < value.toNat)) →
    gradesOfByte grades ≠ 0 →
    inForce = (if expiry = 0 then s.sus.image.defaultExpiry else min 600 (max 10 expiry.toNat)) →
    result = (if clamped = true ∨ (expiry ≠ 0 ∧ inForce ≠ expiry.toNat) then .okClamped else .ok) →
    a = { owner := .control, token := token, limit := limit, level := lv, grades := gradesOfByte grades
          expiry := inForce, accepted := s.sps.time, slot := i, seq := s.sj.nextSeq } →
    e = { state := .reserved, seq := s.sj.nextSeq, fp := f, owner := .control, token := token
          limit := limit, level := lv, sale := none, ended := none, flags := RecordFlags.empty
          overShort := none, settled := none } →
    (∀ k, s.sj.chooseSlot = some k →
      (s.sj.slot k = none ∧ ∀ j, j < k → s.sj.slot j ≠ none) ∨
      ((∀ j, s.sj.slot j ≠ none) ∧ ∃ e, s.sj.slot k = some e ∧ e.state = .settled ∧
        ∀ j d, s.sj.slot j = some d → d.state = .settled → e.seq ≤ d.seq)) ∧
    (s.sj.chooseSlot = none → ∀ k, ∃ e, s.sj.slot k = some e ∧ e.state ≠ .settled) ∧
    ((s.fp f).state ≠ .idle ∧ (s.fp f).state ≠ .calling ∨ s.sps.seq ≠ .opened →
      exec cmd s = .next (s.answered r 0x90 .wrongState .none)) ∧
    ((s.fp f).state = .idle ∧ (s.fp f).upList = [] ∨ (s.fp f).state = .calling ∧ 2 ≤ (s.fp f).upList.length →
      s.sps.seq = .opened →
      (4294967295 < s.sj.nextSeq ∨ s.sj.chooseSlot = none →
        exec cmd s = .next (s.answered r 0x90 .journalFull .none)) ∧
      (s.sj.nextSeq ≤ 4294967295 → s.sj.chooseSlot = some i →
        ∃ t, exec cmd s = .next t ∧
          t.clp = s.clp.answering r 0x90 result (.granted s.sj.nextSeq i limit inForce) 0 ∧
          t.fp f = { s.fp f with
            state := .armed, expiryTimer := some (inForce * 1000000)
            waiting := if (s.fp f).upList = [] then .none else .nozzleConflict
            auth := some a } ∧
          (∀ k, t.sj.slot k = if k = i then some e else s.sj.slot k) ∧
          (left = ((List.finRange 32).filter (fun k => match t.sj.slot k with
              | none => true
              | some e => decide (e.state = .settled))).length →
            t.sj.lowArmed = (s.sj.lowArmed && decide (s.sus.image.lowThreshold < left)) ∧
            t.nu.get .journalLow =
              (if s.sj.lowArmed = true ∧ left ≤ s.sus.image.lowThreshold then (s.nu.get .journalLow).raised
              else s.nu.get .journalLow)) ∧
          t.sj.nextSeq = s.sj.nextSeq + 1 ∧ t.sj.totals = s.sj.totals ∧ t.fp f.other = s.fp f.other ∧
          t.riu = s.riu ∧ t.sps = s.sps ∧ t.psg = s.psg ∧ t.miu = s.miu ∧ t.dbc = s.dbc ∧ t.pru = s.pru)) ∧
    -- CALLING with one nozzle up
    (∀ n, (s.fp f).state = .calling → (s.fp f).upList = [n] → s.sps.seq = .opened →
      ((∀ g, (s.sus.image.hose.get f).get n = some g → s.sus.image.defined g = true →
          gradeIn (gradesOfByte grades) g = false) →
        exec cmd s = .next (s.answered r 0x90 .gradeNotAllowed .none)) ∧
      ∀ g, (s.sus.image.hose.get f).get n = some g → s.sus.image.defined g = true →
        gradeIn (gradesOfByte grades) g = true →
        (4294967295 < s.sj.nextSeq ∨ s.sj.chooseSlot = none →
          exec cmd s = .next (s.answered r 0x90 .journalFull .none)) ∧
        (s.sj.nextSeq ≤ 4294967295 → s.sj.chooseSlot = some i →
          ∃ t, exec cmd s = .next t ∧
            t.clp = s.clp.answering r 0x90 result (.granted s.sj.nextSeq i limit inForce) 0 ∧
            t.sj.nextSeq = s.sj.nextSeq + 1 ∧ (∀ k, k ≠ i → t.sj.slot k = s.sj.slot k) ∧
            t.fp f.other = s.fp f.other ∧ t.riu = s.riu ∧
            ((s.fp f).appliedGen ≠ s.pru.generation ∨ s.pru.panelVerified.get f ≠ some s.pru.generation →
              t.fp f = { s.fp f with
                state := .armed, expiryTimer := some (inForce * 1000000), waiting := .priceWait
                auth := some a } ∧
              t.sj.slot i = some e ∧ t.psg = s.psg ∧ t.dbc = s.dbc ∧ t.miu = s.miu) ∧
            ((s.fp f).appliedGen = s.pru.generation → s.pru.panelVerified.get f = some s.pru.generation →
              (∀ p, (s.meter (f.meter p)).faulty = false) →
              (∀ q, s.pru.current.get g = some q →
                (∀ p, needsPump (s.sus.image.perMille g) p = true → (s.pump p).state = .off) →
                ∃ x y, (t.fp f).state = .starting ∧ (t.fp f).saleNozzle = some n ∧ (t.fp f).waiting = .none ∧
                  (t.fp f).expiryTimer = none ∧ (t.fp f).auth = some a ∧ (t.fp f).sale = some x ∧ x.grade = g ∧
                  x.price = (match lv with
                    | .level1 => q.level1
                    | .level2 => q.level2) ∧
                  x.target = targetOf limit x.price ∧ x.an = s.sj.anticipation.get f ∧ x.volume = 0 ∧ x.money = 0 ∧
                  x.dutyL = 0 ∧ x.dutyH = 0 ∧ t.sj.slot i = some { e with state := .active, sale := some y } ∧
                  y.grade = g ∧ y.price = x.price ∧ y.generation = s.pru.generation ∧ y.target = x.target ∧
                  y.start = s.sps.time ∧ (∀ p, (t.meter (f.meter p)).backlash = 0) ∧
                  (∀ p, (t.pump p).demand = (s.pump p).demand + (if needsPump x.t p then 1 else 0)) ∧
                  (t.field f.main .f1).wanted = .number 0 ∧ (t.field f.main .f2).wanted = .number 0 ∧
                  (t.field f.main .f3).wanted = .number x.price) ∧
              ((∃ p, needsPump (s.sus.image.perMille g) p = true ∧ (s.pump p).state = .failed) →
                ∃ y, (t.fp f).lastEnd = some .pumpFail ∧ (t.fp f).auth = none ∧ (t.fp f).expiryTimer = none ∧
                  ((s.fp f).closedCauses.any = false → (s.fp f).noted.any = false →
                    (s.fp f).lockAfterSale = false → (t.fp f).state = .ended ∧ (t.fp f).saleNozzle = some n) ∧
                  t.sj.slot i = some { e with
                    state := .unsettled, sale := some y, ended := some (s.sps.time, .pumpFail) } ∧
                  y.grade = g ∧ y.volume = 0 ∧ y.money = 0 ∧ t.psg = s.psg ∧
                  t.nu.get .saleDone = (s.nu.get .saleDone).raisedFor f))))

/-- From R50, R56 and R58: CANCEL_AUTH drops an ARMED authorization, CANCELLED or CONTROL_CANCEL by its owner; in
FUELING and STOPPING it is refused WRONG_STATE, and with nothing held it is ALREADY. STOP_FP stops a FUELING sale with
cause CONTROL_STOP and takes a PRESET stop's place; another stop is ALREADY and any other state WRONG_STATE. Either
ends a STARTING sale with reason CONTROL_STOP. -/
def Obligations.CancelAndStopActByTheState : Prop :=
  ∀ (f : Fp) (s : State), s.takesRequests →
    ((s.fp f).state = .fueling ∨ (s.fp f).state = .stopping →
      exec (.cancelAuth (fpByte f)) s = .next (s.answered (.cancelAuth (fpByte f)) 0x91 .wrongState .none)) ∧
    ((s.fp f).state ≠ .armed → (s.fp f).state.inSale = false →
      exec (.cancelAuth (fpByte f)) s = .next (s.answered (.cancelAuth (fpByte f)) 0x91 .already .none) ∧
      exec (.stopFp (fpByte f)) s = .next (s.answered (.stopFp (fpByte f)) 0x92 .wrongState .none)) ∧
    (∀ a, (s.fp f).state = .armed → (s.fp f).auth = some a → s.sps.seq ≠ .closing →
      exec (.stopFp (fpByte f)) s = .next (s.answered (.stopFp (fpByte f)) 0x92 .wrongState .none) ∧
      ∃ t, exec (.cancelAuth (fpByte f)) s = .next t ∧
        t.clp = s.clp.answering (.cancelAuth (fpByte f)) 0x91 .ok .none 0 ∧ (t.fp f).auth = none ∧
        (t.fp f).expiryTimer = none ∧ (t.fp f).state ≠ .armed ∧
        (∀ k, t.sj.slot k = if k = a.slot then none else s.sj.slot k) ∧
        t.nu.get .authEnded = (s.nu.get .authEnded).raisedFor f ∧
        (a.owner = .reader → s.riu.link = .active → s.riu.queue.length < 8 →
          t.riu.queue = s.riu.queue ++ [.frame (.authEnded f a.seq .controlCancel)]) ∧
        (a.owner = .control → t.riu = s.riu) ∧ t.fp f.other = s.fp f.other ∧ t.psg = s.psg) ∧
    (∀ r, (s.fp f).state = .fueling → (s.fp f).sale = some r →
      exec (.stopFp (fpByte f)) s = .next ((s.answered (.stopFp (fpByte f)) 0x92 .ok .none).setFp f { s.fp f with
        state := .stopping, stopCause := some .controlStop, noFlowTimer := none
        runOutTimer := some (s.sus.image.runOut * 1000), valveL := none, valveH := none
        sale := some { r with heldPhase := r.phase, heldL := r.dutyL, heldH := r.dutyH, dutyL := 0, dutyH := 0 } })) ∧
    ((s.fp f).state = .stopping →
      ((s.fp f).stopCause = some .preset →
        exec (.stopFp (fpByte f)) s = .next ((s.answered (.stopFp (fpByte f)) 0x92 .ok .none).setFp f
          { s.fp f with stopCause := some .controlStop })) ∧
      ((s.fp f).stopCause ≠ some .preset →
        exec (.stopFp (fpByte f)) s = .next (s.answered (.stopFp (fpByte f)) 0x92 .already .none))) ∧
    (∀ r a e c request, (s.fp f).state = .starting → (s.fp f).sale = some r → (s.fp f).auth = some a →
      s.sj.slot a.slot = some e → s.sps.seq ≠ .closing →
      c = Instr.cancelAuth (fpByte f) ∧ request = Request.cancelAuth (fpByte f) ∨
        c = Instr.stopFp (fpByte f) ∧ request = Request.stopFp (fpByte f) →
      ∃ t e', exec c s = .next t ∧ t.clp = s.clp.answering request (requestKind request + 0x80) .ok .none 0 ∧
        (t.fp f).lastEnd = some .controlStop ∧ (t.fp f).auth = none ∧ (t.fp f).state ≠ .starting ∧
        t.sj.slot a.slot = some e' ∧ e'.state = .unsettled ∧ e'.ended = some (s.sps.time, .controlStop) ∧
        (∀ p, (t.pump p).demand = (s.pump p).demand - (if needsPump r.t p then 1 else 0)) ∧
        (t.nu.get .saleDone).pending = true ∧ t.fp f.other = s.fp f.other)

/-- From R64, R6 and R73: CLEAR_LOCK of a LOCKED fueling point with OK meters and no FAILED module empties its lock
causes, lands it by its closed causes and nozzles and recomputes the check word if TOTALS was among the causes; a
FAULTY meter refuses it with cause METER, then a FAILED module with cause DISPLAY: the lock stays, a STUCK bus begins a
recovery attempt, and otherwise its FAILED modules are tested again (R102, R103; with the supply off the test waits, and
during an attempt it is held, the model's reading, assumptions 23 and 42). A fueling point not LOCKED is ALREADY, and
a number outside 1..2 BAD_FIELD. CLEAR_FAULT makes a FAULTY meter OK, counts and backlash 0 and the rest kept, and a
FAILED pump OFF while its feedback is not asserted; a target that is neither a meter nor a pump is BAD_FIELD. -/
def Obligations.LocksAndFaultsAreCleared : Prop :=
  ∀ (f : Fp) (m : Meter) (p : Pump) (s : State), s.takesRequests →
    ((s.fp f).state ≠ .locked →
      exec (.clearLock (fpByte f)) s = .next (s.answered (.clearLock (fpByte f)) 0x94 .already .none)) ∧
    ((s.fp f).state = .locked → ¬ (∀ k, (s.meter (f.meter k)).faulty = false) →
      exec (.clearLock (fpByte f)) s = .next (s.answered (.clearLock (fpByte f)) 0x94 .wrongState
        (.lockCause ⟨true, false, false, false⟩))) ∧
    ((s.fp f).state = .locked → (∀ k, (s.meter (f.meter k)).faulty = false) →
      (s.module f.main).state = .failed ∨ (s.module f.panel).state = .failed →
      ∃ t, exec (.clearLock (fpByte f)) s = .next t ∧
        t.clp = s.clp.answering (.clearLock (fpByte f)) 0x94 .wrongState
          (.lockCause ⟨false, true, false, false⟩) 0 ∧
        t.fpc = s.fpc ∧ t.sj = s.sj ∧ t.nu = s.nu ∧ t.sps = s.sps ∧ t.riu = s.riu ∧ t.psg = s.psg ∧ t.miu = s.miu ∧
        t.sus = s.sus ∧
        (s.dbc.bus = .stuck → t.dbc = { s.dbc with bus := .recovering true none }) ∧
        (∀ x, s.dbc.bus = .recovering true x →
          t.dbc = { s.dbc with heldTests := t.dbc.heldTests } ∧
            ∀ k, t.dbc.heldTests.get k =
              (s.dbc.heldTests.get k || decide (k.fp = f ∧ (s.module k).state = .failed))) ∧
        (s.dbc.bus ≠ .stuck → (∀ x, s.dbc.bus ≠ .recovering true x) →
          t.dbc.bus = s.dbc.bus ∧ ∀ k,
            (k.fp = f → (s.module k).state = .failed → (s.module k).stage = .none →
              (t.module k).state = .failed ∧ (t.module k).stage = .pattern ∧ ∀ q, (t.field k q).dirty = true) ∧
            (k.fp ≠ f ∨ (s.module k).state ≠ .failed ∨ (s.module k).stage ≠ .none → t.module k = s.module k))) ∧
    (∀ fp : Byte, fp ≠ 1 → fp ≠ 2 →
      exec (.clearLock fp) s = .next (s.answered (.clearLock fp) 0x94 .badField .none)) ∧
    (∀ meter : Byte, meter.toNat = 0 ∨ 4 < meter.toNat → meter ≠ 0x81 → meter ≠ 0x82 →
      exec (.clearFaultMeter meter) s = .next (s.answered (.clearFault meter) 0x95 .badField .none)) ∧
    ((s.fp f).state = .locked → (∀ k, (s.meter (f.meter k)).faulty = false) →
      (s.module f.main).state ≠ .failed → (s.module f.panel).state ≠ .failed → s.sps.seq ≠ .closing →
      ∃ t, exec (.clearLock (fpByte f)) s = .next t ∧
        t.clp = s.clp.answering (.clearLock (fpByte f)) 0x94 .ok (.newState (t.fp f).state) 0 ∧
        (t.fp f).state =
          (if (s.fp f).closedCauses.any then .closed else if (s.fp f).upList.isEmpty then .idle else .calling) ∧
        (t.fp f).lockCauses = ⟨false, false, false, false⟩ ∧ (t.fp f).appliedGen = s.pru.generation ∧
        ((s.fp f).lockCauses.totals = true → t.sj.checkWord = s.sj.totals.check ∧ t.sj.totalsCorrupt = false) ∧
        ((s.fp f).lockCauses.totals = false → t.sj = s.sj) ∧ t.sj.totals = s.sj.totals ∧
        t.sj.slots = s.sj.slots ∧ t.fp f.other = s.fp f.other ∧ t.riu = s.riu ∧ t.nu = s.nu ∧ t.sps = s.sps) ∧
    ((s.meter m).faulty = true →
      exec (.clearFaultMeter (BitVec.ofNat 8 m.number)) s =
        .next ((s.answered (.clearFault (BitVec.ofNat 8 m.number)) 0x95 .ok .none).setMeter m
          { s.meter m with faulty := false, cause := .none, aRun := 0, bRun := 0, backlash := 0 })) ∧
    ((s.meter m).faulty = false →
      exec (.clearFaultMeter (BitVec.ofNat 8 m.number)) s =
        .next (s.answered (.clearFault (BitVec.ofNat 8 m.number)) 0x95 .already .none)) ∧
    (∀ (c : Instr) (target : Byte), c = .clearFaultPump p →
      target = (match p with
        | .pumpL => 0x81
        | .pumpH => 0x82) →
      ((s.pump p).state ≠ .failed → exec c s = .next (s.answered (.clearFault target) 0x95 .already .none)) ∧
      ((s.pump p).state = .failed →
        (s.pins.feedback.get p = true →
          exec c s = .next (s.answered (.clearFault target) 0x95 .wrongState .none)) ∧
        (s.pins.feedback.get p = false → (s.pump p).demand = 0 →
          exec c s = .next ((s.answered (.clearFault target) 0x95 .ok .none).setPump p
            { s.pump p with state := .off, cause := .none })) ∧
        (s.pins.feedback.get p = false → 0 < (s.pump p).demand →
          ∃ t, exec c s = .next t ∧ (t.pump p).cause = .none ∧
            ((t.pump p).state = .queued ∧ p ∈ t.psg.queue ∨ (t.pump p).state = .starting))))

/-! ### Prices, settlement, the reader, setup, displays -/

/-- From R78 to R80 and R82: an accepted AT set becomes the pending set and takes the next generation later; an
accepted NOW set is current before the reply, with the next generation, PRICE_APPLIED raised and any pending set
discarded; OK_REPLACED where a pending set was held. A seconds value of 86400 or more is refused naming entry 0, and a
defined grade G1 left unpriced naming entry 1. CANCEL_PRICES discards the pending set, or is ALREADY. -/
def Obligations.PricesAreStagedAndCancelled : Prop :=
  ∀ (seconds : BitVec 24) (es : PerGrade RawPrice) (next : Nat) (s : State), s.takesRequests →
    next = (if s.pru.generation < 65535 then s.pru.generation + 1 else 1) →
    (s.pru.pendingSet.isSome →
      exec .cancelPrices s = .next { s.answered .cancelPrices 0xA1 .ok .none with
        pru := { s.pru with pendingSet := none } }) ∧
    (s.pru.pendingSet = none →
      exec .cancelPrices s = .next (s.answered .cancelPrices 0xA1 .already .none)) ∧
    (86400 ≤ seconds.toNat →
      exec (.stagePricesAt seconds es) s =
        .next (s.answered (.stagePrices 1 seconds es) 0xA0 .badField (.faultyGrade 0))) ∧
    (s.sus.definedForPrices .g1 = true → (es.get .g1).priced = 0 →
      exec (.stagePricesNow seconds es) s =
        .next (s.answered (.stagePrices 0 seconds es) 0xA0 .badField (.faultyGrade 1))) ∧
    (∀ set : PriceSet,
      (∀ g, match set.get g with
        | none => s.sus.definedForPrices g = false ∧ (es.get g).priced = 0
        | some q => s.sus.definedForPrices g = true ∧ (es.get g).priced = 1 ∧
          (es.get g).level1.toNat = q.level1 ∧ (es.get g).level2.toNat = q.level2 ∧
          100 ≤ q.level1 ∧ q.level1 ≤ 9999 ∧ 100 ≤ q.level2 ∧ q.level2 ≤ 9999) →
      (seconds.toNat < 86400 →
        exec (.stagePricesAt seconds es) s = .next
          { s.answered (.stagePrices 1 seconds es) 0xA0
              (if s.pru.pendingSet.isSome then .okReplaced else .ok) (.generation next) with
            pru := { s.pru with pendingSet := some ⟨set, seconds.toNat⟩ } }) ∧
      ∃ t, exec (.stagePricesNow seconds es) s = .next t ∧ t.pru.current = set ∧ t.pru.pendingSet = none ∧
        t.pru.generation = next ∧ t.nu.get .priceApplied = (s.nu.get .priceApplied).raised ∧
        (∀ f, (s.inSale f = true → t.pru.adoptionDue.get f = true ∧ t.fp f = s.fp f) ∧
          (s.inSale f = false → (t.fp f).appliedGen = next ∧ (t.fp f).state = (s.fp f).state ∧
            t.pru.panelVerified.get f = none ∧ ∀ p, (t.field f.panel p).dirty = true)) ∧
        (∃ o, t.clp.outstanding = some o ∧ o.reply =
          ⟨0xA0, if s.pru.pendingSet.isSome then .okReplaced else .ok, .generation next⟩) ∧
        t.riu = s.riu ∧ t.sj = s.sj ∧ t.psg = s.psg ∧ t.miu = s.miu ∧ t.sps = s.sps)

/-- From R147 to R149: SETTLE_SALE settles a control-owned UNSETTLED entry named with its token, by CONTROL at the
site time; TAKE_OVER settles a reader-owned one while the link is not ACTIVE, WARNING or RECOVERING. The other cases
are NO_ENTRY, NOT_PERMITTED, BAD_FIELD (of the token), BUSY and ALREADY in that order, and change nothing but the link.
A settlement after which the available count stands above the threshold arms the low flag (also where it stood above it
before: the model's choice, assumption 56). -/
def Obligations.SettlementFollowsOwnerAndState : Prop :=
  ∀ (seq : BitVec 32) (token : Token) (left : Sj → Nat) (s : State), s.takesRequests → s.sj.numbered →
    (∀ j, left j = ((List.finRange 32).filter (fun k => match j.slot k with
      | none => true
      | some e => decide (e.state = .settled))).length) →
    ((∀ i e, s.sj.slot i = some e → e.seq ≠ seq.toNat) →
      exec (.settleSale seq token) s = .next (s.answered (.settleSale seq token) 0xB1 .noEntry .none) ∧
      exec (.takeOver seq) s = .next (s.answered (.takeOver seq) 0xB2 .noEntry .none)) ∧
    (∀ i e, s.sj.slot i = some e → e.seq = seq.toNat →
      (e.owner = .reader →
        exec (.settleSale seq token) s = .next (s.answered (.settleSale seq token) 0xB1 .notPermitted .none)) ∧
      (e.owner = .control →
        exec (.takeOver seq) s = .next (s.answered (.takeOver seq) 0xB2 .notPermitted .none)) ∧
      (e.owner = .control → e.token ≠ token →
        exec (.settleSale seq token) s = .next (s.answered (.settleSale seq token) 0xB1 .badField .none)) ∧
      (e.owner = .control → e.token = token → e.state = .reserved ∨ e.state = .active →
        exec (.settleSale seq token) s = .next (s.answered (.settleSale seq token) 0xB1 .busy .none)) ∧
      (e.owner = .control → e.token = token → e.state = .settled →
        exec (.settleSale seq token) s = .next (s.answered (.settleSale seq token) 0xB1 .already .none)) ∧
      (e.owner = .reader → s.riu.link = .active ∨ s.riu.link = .warning ∨ s.riu.link = .recovering →
        exec (.takeOver seq) s = .next (s.answered (.takeOver seq) 0xB2 .notPermitted .none)) ∧
      (e.owner = .reader → s.riu.link ≠ .active → s.riu.link ≠ .warning → s.riu.link ≠ .recovering →
        (e.state = .reserved ∨ e.state = .active →
          exec (.takeOver seq) s = .next (s.answered (.takeOver seq) 0xB2 .busy .none)) ∧
        (e.state = .settled →
          exec (.takeOver seq) s = .next (s.answered (.takeOver seq) 0xB2 .already .none))) ∧
      (e.owner = .control → e.token = token → e.state = .unsettled →
        ∃ t, exec (.settleSale seq token) s = .next t ∧
          t = { s.answered (.settleSale seq token) 0xB1 .ok .none with sj := t.sj } ∧
          (∀ k, t.sj.slot k = if k = i then
              some { e with state := .settled, settled := some (.control, s.sps.time) } else s.sj.slot k) ∧
          t.sj.lowArmed = (s.sj.lowArmed || decide (s.sus.image.lowThreshold < left t.sj)) ∧
          t.sj.totals = s.sj.totals ∧ t.sj.nextSeq = s.sj.nextSeq) ∧
      (e.owner = .reader → s.riu.link ≠ .active → s.riu.link ≠ .warning → s.riu.link ≠ .recovering →
        e.state = .unsettled →
        ∃ t, exec (.takeOver seq) s = .next t ∧
          t = { s.answered (.takeOver seq) 0xB2 .ok .none with sj := t.sj } ∧
          (∀ k, t.sj.slot k = if k = i then
              some { e with state := .settled, settled := some (.takeOver, s.sps.time) } else s.sj.slot k) ∧
          t.sj.lowArmed = (s.sj.lowArmed || decide (s.sus.image.lowThreshold < left t.sj)) ∧
          t.sj.totals = s.sj.totals ∧ t.sj.nextSeq = s.sj.nextSeq))

/-- From R122, R124, R133, R135, R137 and R138: what the reader messages do. A release of a FENCED link makes it
RECOVERING with its counts 0; a power-cycle of an ON domain switches it off for 2 s; a text joins the queue with the
next number, and an abort of one still QUEUED takes it out; READ_PASSTHROUGH removes the oldest prompt; CLEAR_OVERRUN
clears its flag; SET_READER_POLICY replaces the policy with its ceiling clamped. Each refuses or is ALREADY elsewhere.
-/
def Obligations.ReaderMessagesAct : Prop :=
  ∀ (text : List Byte) (kinds fps : Byte) (ceiling : BitVec 32) (auto : Byte) (number : Nat) (s : State),
    s.takesRequests → number = (if s.riu.textCounter < 255 then s.riu.textCounter + 1 else 1) →
    (s.riu.link = .fenced →
      exec .readerRelease s = .next { s.answered .readerRelease 0xC1 .ok .none with riu := { s.riu with
        link := .recovering, sendErrors := 0, recvErrors := 0, goodRun := 0
        exchangeTimer := some 100000, slowPace := false } }) ∧
    (s.riu.link ≠ .fenced →
      exec .readerRelease s = .next (s.answered .readerRelease 0xC1 .wrongState .none)) ∧
    (s.sps.domain = .off →
      exec .readerPowerCycle s = .next (s.answered .readerPowerCycle 0xC2 .wrongState .none)) ∧
    (s.sps.domain = .cycling →
      exec .readerPowerCycle s = .next (s.answered .readerPowerCycle 0xC2 .already .none)) ∧
    (s.sps.domain = .on → s.sps.seq ≠ .closing →
      ∃ t, exec .readerPowerCycle s = .next t ∧ t.clp = s.clp.answering .readerPowerCycle 0xC2 .ok .none 0 ∧
        t.sps = { s.sps with domain := .cycling, cycleTimer := some 2000000 } ∧ t.riu.link = .off ∧
        t.riu.queue = [] ∧ t.riu.sendErrors = 0 ∧ t.riu.recvErrors = 0 ∧ t.riu.holdoff = s.riu.holdoff ∧
        t.riu.passThrough = s.riu.passThrough ∧ t.riu.policy = s.riu.policy ∧
        (∀ f a, (s.fp f).state = .armed → (s.fp f).auth = some a → a.owner = .reader →
          (t.fp f).auth = none ∧ t.sj.slot a.slot = none)) ∧
    (32 < text.length →
      exec (.sendToReader text) s = .next (s.answered (.sendToReader text) 0xC3 .badField .none)) ∧
    (text.length ≤ 32 → s.riu.link ≠ .active → s.riu.link ≠ .warning →
      exec (.sendToReader text) s = .next (s.answered (.sendToReader text) 0xC3 .wrongState .none)) ∧
    (text.length ≤ 32 → s.riu.link = .active ∨ s.riu.link = .warning →
      (s.riu.textStage ≠ .none ∨ 8 ≤ s.riu.queue.length →
        exec (.sendToReader text) s = .next (s.answered (.sendToReader text) 0xC3 .busy .none)) ∧
      (s.riu.textStage = .none → s.riu.queue.length < 8 →
        exec (.sendToReader text) s = .next
          { s.answered (.sendToReader text) 0xC3 .ok (.textNumber number) with riu := { s.riu with
            queue := s.riu.queue ++ [.frame (.hostText number text)], textCounter := number
            textNumber := number, textStage := .queued, completion := .pending } })) ∧
    (s.riu.textStage = .sent →
      exec .abortToReader s = .next (s.answered .abortToReader 0xC4 .busy .none)) ∧
    (s.riu.textStage = .none →
      exec .abortToReader s = .next (s.answered .abortToReader 0xC4 .already .none)) ∧
    (∀ before after n x, s.riu.textStage = .queued → s.riu.queue = before ++ .frame (.hostText n x) :: after →
      (∀ e, e ∈ before ++ after → ∀ m y, e ≠ .frame (.hostText m y)) →
      exec .abortToReader s = .next { s.answered .abortToReader 0xC4 .ok .none with riu := { s.riu with
        queue := before ++ after, textStage := .none, completion := .aborted } }) ∧
    (s.riu.passThrough = [] →
      exec .readPassthrough s = .next (s.answered .readPassthrough 0xC5 .noEntry .none)) ∧
    (∀ p rest, s.riu.passThrough = p :: rest →
      exec .readPassthrough s = .next { s.answered .readPassthrough 0xC5 .ok (.promptRead p rest.length) with
        riu := { s.riu with passThrough := rest } }) ∧
    exec .clearOverrun s = .next { s.answered .clearOverrun 0xC6 (if s.riu.overrun then .ok else .already) .none with
      riu := { s.riu with overrun := false } } ∧
    (64 ≤ kinds.toNat ∨ 4 ≤ fps.toNat ∨ 1 < auto.toNat →
      exec (.setReaderPolicy kinds fps ceiling auto) s =
        .next (s.answered (.setReaderPolicy kinds fps ceiling auto) 0xC7 .badField .none)) ∧
    (kinds.toNat < 64 → fps.toNat < 4 → auto.toNat ≤ 1 →
      ∃ t n, exec (.setReaderPolicy kinds fps ceiling auto) s = .next t ∧
        t = { s with
          clp := s.clp.answering (.setReaderPolicy kinds fps ceiling auto) 0xC7
            (if 100 ≤ ceiling.toNat ∧ ceiling.toNat ≤ 999899 then .ok else .okClamped) .none n
          riu := { s.riu with policy :=
            { authReq := kinds.getLsbD 0, authCancel := kinds.getLsbD 1, saleQuery := kinds.getLsbD 2
              settle := kinds.getLsbD 3, prompt := kinds.getLsbD 4, textAck := kinds.getLsbD 5
              fps := ⟨fps.getLsbD 0, fps.getLsbD 1⟩, ceiling := min 999899 (max 100 ceiling.toNat)
              autoCycle := decide (auto.toNat = 1) } }
          sus := { s.sus with writing := t.sus.writing } } ∧
        (s.sus.settingsLost = true → n = 0 ∧ t.sus.writing = s.sus.writing) ∧
        (s.sus.settingsLost = false → 0 < n ∧ t.sus.writing.isSome))

/-- From R188, R189, R193 and R194: ENTER_SETUP is ALREADY in SETUP and BUSY with a fueling point ARMED or in a sale;
accepted, the edit image is a copy and both fueling points hold closed cause SETUP. LEAVE_SETUP is ALREADY in OPERATE;
the first of the four checks that the image fails refuses it, naming item 3 and the
nozzle, 20 and the module, 14, or 2 and the grade; one that passes is in force, a store write begins, the
settings lost flag is clear and SETUP and NOT_SET_UP are removed. -/
def Obligations.SetupIsEnteredAndLeft : Prop :=
  ∀ (s : State) (hose addresses : Image → Prop) (index : Fp → Nozzle → Nat), s.takesRequests →
    (∀ f n, index f n = 3 * (match f with
        | .fp1 => 0
        | .fp2 => 1) + (match n with
        | .n1 => 1
        | .n2 => 2
        | .n3 => 3)) →
    (∀ e, hose e ↔ ∀ f n g, (e.hose.get f).get n = some g → (e.share.get g).isSome) →
    (∀ e, addresses e ↔ ∀ a b : ModuleId, a ≠ b → e.address.get a ≠ e.address.get b) →
    (∀ (e : Image) (set : PriceSet),
      (∀ f n g, (e.hose.get f).get n = some g → e.share.get g = none →
        (∀ f' n' g', index f' n' < index f n → (e.hose.get f').get n' = some g' → (e.share.get g').isSome) →
        e.fault set = some (3, index f n)) ∧
      (hose e → ∀ a b : ModuleId, a.number < b.number → e.address.get a = e.address.get b →
        (∀ a' b' : ModuleId, a'.number < b'.number → b'.number < b.number → e.address.get a' ≠ e.address.get b') →
        e.fault set = some (20, b.number)) ∧
      (hose e → addresses e → e.bt2 ≤ e.bt1 → e.fault set = some (14, 0)) ∧
      (hose e → addresses e → e.bt1 < e.bt2 → ∀ g, (e.share.get g).isSome → set.get g = none →
        (∀ g' : Grade, g'.number < g.number → (e.share.get g').isSome → (set.get g').isSome) →
        e.fault set = some (2, g.number)) ∧
      (hose e → addresses e → e.bt1 < e.bt2 → (∀ g, (e.share.get g).isSome → (set.get g).isSome) →
        e.fault set = none)) ∧
    (s.sus.edit.isSome → exec .enterSetup s = .next (s.answered .enterSetup 0xD0 .already .none)) ∧
    (s.sus.edit = none → (∃ f, (s.fp f).state = .armed ∨ s.inSale f = true) →
      exec .enterSetup s = .next (s.answered .enterSetup 0xD0 .busy .none)) ∧
    (s.sus.edit = none → (∀ f, (s.fp f).state ≠ .armed ∧ s.inSale f = false) → s.sps.seq ≠ .closing →
      ∃ t, exec .enterSetup s = .next t ∧
        t = { s with
          clp := s.clp.answering .enterSetup 0xD0 .ok .none 0
          sus := { s.sus with edit := some s.sus.image }
          fpc := t.fpc } ∧
        ∀ f, (t.fp f).closedCauses = { (s.fp f).closedCauses with setup := true } ∧
          (t.fp f).lockCauses = (s.fp f).lockCauses ∧ (t.fp f).nozzleUp = (s.fp f).nozzleUp ∧
          (t.fp f).state = if (s.fp f).state = .locked then .locked else .closed) ∧
    (s.sus.edit = none → s.sps.stage ≠ .s3 →
      exec .leaveSetup s = .next (s.answered .leaveSetup 0xD1 .already .none)) ∧
    (∀ e item index, s.sus.edit = some e → e.fault s.pru.current = some (item, index) → s.sps.stage ≠ .s3 →
      exec .leaveSetup s = .next (s.answered .leaveSetup 0xD1 .badField (.itemIndex item index))) ∧
    (∀ e, s.sus.edit = some e → e.fault s.pru.current = none → s.sus.writing = none → s.sps.stage ≠ .s3 →
      s.sps.seq ≠ .closing →
      ∃ t w, exec .leaveSetup s = .next t ∧ t.clp = s.clp.answering .leaveSetup 0xD1 .ok .none 1 ∧
        t.sus.image = e ∧ t.sus.edit = none ∧ t.sus.settingsLost = false ∧ t.sus.writing = some w ∧
        w.queued = 0 ∧ w.items.image = e ∧ w.items.schedule = s.sps.schedule ∧ w.items.policy = s.riu.policy ∧
        (∀ g, t.pru.current.get g = if e.defined g then s.pru.current.get g else none) ∧
        t.pru.generation = s.pru.generation ∧ t.pru.panelVerified = ⟨none, none⟩ ∧
        (∀ f, (t.fp f).closedCauses.setup = false ∧ (t.fp f).closedCauses.notSetUp = false ∧
          ((s.fp f).state = .closed → (s.fp f).closedCauses.site = true → (t.fp f).state = .closed) ∧
          ((s.fp f).state = .locked → (t.fp f).state = .locked)) ∧
        (∀ m, (t.module m).address = e.address.get m) ∧
        t.sj.anticipation = (if e.an0 = s.sus.image.an0 then s.sj.anticipation else ⟨e.an0, e.an0⟩) ∧
        t.sj.slots = s.sj.slots ∧ t.sj.totals = s.sj.totals ∧ t.riu = s.riu ∧ t.psg = s.psg ∧ t.nu = s.nu)

/-- From R190 to R192 and R153: GET_ITEM answers the value in force and, in SETUP, the edited one, for every item and
index of Table 9-2, and refuses the rest; what each item holds and its range are written out from the table. SET_ITEM
is refused in OPERATE; in SETUP it stores the value, clamped or refused as the table says, and only at its item and
index. SET_METER with the switch closed edits the factor, counts the calibration at once and raises METROLOGY; with it
open it is NOT_PERMITTED. That the row carries the level of METSW, which the pin takes, is the model's choice
(assumption 8). -/
def Obligations.SettingsAreReadAndEdited : Prop :=
  ∀ (item index : Byte) (value cf : BitVec 32) (m : Meter) (closed : Bool) (inTable : Prop) (s : State)
    (ranges : List (Nat × Int × Int × Bool)), s.takesRequests →
    ranges =
      [(2, -1, 100, false), (3, 0, 6, false), (4, 200, 1000, true), (5, 50, 500, true), (6, 5, 50, true),
        (7, 50, 2000, true), (8, 0, 200, true), (9, 500, 5000, true), (10, 10, 120, true), (11, 10, 600, true),
        (12, 100, 2000, true), (13, 1, 16, true), (14, 5, 100, true), (15, 5, 100, true), (16, 0, 5000, true),
        (17, 0, 60, true), (18, 500, 5000, true), (19, 200, 3000, true), (20, 0x08, 0x77, false),
        (21, -30, 10, true), (22, 5, 90, true), (23, 50, 2000, true), (24, 0, 60, true), (25, 0, 60, true),
        (26, 0, 16, true), (27, 0, 1, false), (28, 0, 1, false), (29, 1, 65535, true), (30, 1, 255, true),
        (31, 0, 15, false)] →
    (∀ i : Image,
      (∀ k : Meter, i.item 1 k.number = some (i.cf.get k : Nat)) ∧
      (∀ g : Grade, i.item 2 g.number = some (match i.share.get g with
        | some n => (n : Int)
        | none => -1)) ∧
      (∀ (f : Fp) (n : Nozzle), i.item 3 ((f.number - 1) * 3 + n.number) =
        some (match (i.hose.get f).get n with
          | some g => (g.number : Int)
          | none => 0)) ∧
      (∀ k : ModuleId, i.item 20 k.number = some (i.address.get k : Nat)) ∧
      ∀ k v, (k, v) ∈ ([(4, (i.fastDuty : Int)), (5, i.slowDuty), (6, i.valvePeriod), (7, i.slowdown), (8, i.an0),
          (9, i.runOut), (10, i.noFlow), (11, i.defaultExpiry), (12, i.window), (13, i.gain), (14, i.bt1),
          (15, i.bt2), (16, i.prime), (17, i.runOn), (18, i.inrushGap), (19, i.feedback), (21, i.ht),
          (22, i.heatLimit), (23, i.settle), (24, i.hold), (25, i.closeGrace), (26, i.lowThreshold),
          (27, if i.nightWatch then 1 else 0), (28, if i.auditEnable then 1 else 0), (29, i.auditSeed), (30, i.sac),
          (31, (if i.auditMeters.m1 then 1 else 0) + (if i.auditMeters.m2 then 2 else 0)
            + (if i.auditMeters.m3 then 4 else 0) + (if i.auditMeters.m4 then 8 else 0))] : List (Nat × Int)) →
        i.item k 0 = some v) ∧
    (inTable ↔ (item.toNat = 1 ∨ item.toNat = 20) ∧ 1 ≤ index.toNat ∧ index.toNat ≤ 4 ∨
      (item.toNat = 2 ∨ item.toNat = 3) ∧ 1 ≤ index.toNat ∧ index.toNat ≤ 6 ∨
      4 ≤ item.toNat ∧ item.toNat ≤ 31 ∧ item.toNat ≠ 20 ∧ index.toNat = 0) →
    (¬ inTable → exec (.getItem item index) s = .next (s.answered (.getItem item index) 0xD3 .badField .none)) ∧
    (inTable → ∃ v, s.sus.image.item item.toNat index.toNat = some v ∧
      (s.sus.edit = none →
        exec (.getItem item index) s = .next (s.answered (.getItem item index) 0xD3 .ok (.item v none))) ∧
      (∀ e, s.sus.edit = some e → ∃ x, e.item item.toNat index.toNat = some x ∧
        exec (.getItem item index) s = .next (s.answered (.getItem item index) 0xD3 .ok (.item v (some x))))) ∧
    (s.sus.edit = none →
      exec (.setItem item index value) s = .next (s.answered (.setItem item index value) 0xD2 .wrongState .none) ∧
      exec (.setMeter (BitVec.ofNat 8 m.number) cf closed) s =
        .next { s.answered (.setMeter (BitVec.ofNat 8 m.number) cf) 0xD4 .wrongState .none with
          pins := { s.pins with metsw := closed } }) ∧
    (∀ e, s.sus.edit = some e →
      (¬ inTable ∨ item.toNat = 1 →
        exec (.setItem item index value) s = .next (s.answered (.setItem item index value) 0xD2 .badField .none)) ∧
      (∀ lo hi clamps v, inTable → (item.toNat, lo, hi, clamps) ∈ ranges →
        (clamps = false → value.toInt < lo ∨ hi < value.toInt →
          exec (.setItem item index value) s =
            .next (s.answered (.setItem item index value) 0xD2 .badField .none)) ∧
        (clamps = true ∨ (lo ≤ value.toInt ∧ value.toInt ≤ hi) →
          v = (if item.toNat = 9 then min hi (max lo value.toInt) / 100 * 100 else min hi (max lo value.toInt)) →
          ∃ t e', exec (.setItem item index value) s = .next t ∧
            t = { s.answered (.setItem item index value) 0xD2 (if v = value.toInt then .ok else .okClamped)
                (.stored v) with sus := { s.sus with edit := some e' } } ∧
            e'.item item.toNat index.toNat = some v ∧
            ∀ j k, j ≠ item.toNat ∨ k ≠ index.toNat → e'.item j k = e.item j k)) ∧
      (250000 ≤ cf.toNat → cf.toNat ≤ 20000000 →
        (closed = false →
          exec (.setMeter (BitVec.ofNat 8 m.number) cf closed) s =
            .next { s.answered (.setMeter (BitVec.ofNat 8 m.number) cf) 0xD4 .notPermitted .none with
              pins := { s.pins with metsw := false } }) ∧
        (closed = true → cf.toNat = e.cf.get m →
          exec (.setMeter (BitVec.ofNat 8 m.number) cf closed) s =
            .next { s.answered (.setMeter (BitVec.ofNat 8 m.number) cf) 0xD4 .already .none with
              pins := { s.pins with metsw := true } }) ∧
        (closed = true → cf.toNat ≠ e.cf.get m →
          ∃ t, exec (.setMeter (BitVec.ofNat 8 m.number) cf closed) s = .next t ∧
            t.clp = s.clp.answering (.setMeter (BitVec.ofNat 8 m.number) cf) 0xD4 .ok .none 0 ∧
            t.sus = { s.sus with edit := some { e with cf := e.cf.set m cf.toNat } } ∧
            t.sj.totals = { s.sj.totals with
              calibrations := min 65535 (s.sj.totals.calibrations + 1)
              lastCalibration := some s.sps.time } ∧
            t.sj.slots = s.sj.slots ∧ t.nu.get .metrology = (s.nu.get .metrology).raised ∧
            t.fpc = s.fpc ∧ t.miu = s.miu ∧ t.riu = s.riu ∧ t.sps = s.sps)) ∧
      (cf.toNat < 250000 ∨ 20000000 < cf.toNat →
        exec (.setMeter (BitVec.ofNat 8 m.number) cf closed) s =
          .next { s.answered (.setMeter (BitVec.ofNat 8 m.number) cf) 0xD4 .badField .none with
            pins := { s.pins with metsw := closed } }))

/-- From R104, R102 and R103: DISPLAY_TEST is refused for a module above 4 or with the display supply off, BUSY for a
main display in a sale, and ALREADY for one module under test. Accepted on a bus that is IDLE or BUSY it starts a test
of each named module: stage PATTERN and every field dirty; on a STUCK bus it begins a recovery attempt with the test
held. -/
def Obligations.DisplayTestStartsTests : Prop :=
  ∀ (module : Byte) (m : ModuleId) (s : State), s.takesRequests →
    (4 < module.toNat →
      exec (.displayTest module) s = .next (s.answered (.displayTest module) 0xE1 .badField .none)) ∧
    (module.toNat = m.number →
      (s.sps.displaySupply = false →
        exec (.displayTest module) s = .next (s.answered (.displayTest module) 0xE1 .wrongState .none)) ∧
      (s.sps.displaySupply = true →
        (m.isPanel = false → s.inSale m.fp = true →
          exec (.displayTest module) s = .next (s.answered (.displayTest module) 0xE1 .busy .none)) ∧
        (m.isPanel = true ∨ s.inSale m.fp = false →
          ((s.module m).stage ≠ .none →
            exec (.displayTest module) s = .next (s.answered (.displayTest module) 0xE1 .already .none)) ∧
          ((s.module m).stage = .none →
            (s.dbc.bus = .stuck →
              exec (.displayTest module) s = .next { s.answered (.displayTest module) 0xE1 .ok .none with
                dbc := { s.dbc with bus := .recovering true none, heldTests := s.dbc.heldTests.set m true } }) ∧
            ((∃ resume, s.dbc.bus = .idle resume) ∨ (∃ u, s.dbc.bus = .busy u) →
              ∃ t, exec (.displayTest module) s = .next t ∧
                t = { s.answered (.displayTest module) 0xE1 .ok .none with dbc := t.dbc, pru := t.pru } ∧
                (t.module m).stage = .pattern ∧ (t.module m).state = (s.module m).state ∧
                (∀ p, (t.field m p).dirty = true ∧ (t.field m p).wanted = (s.field m p).wanted) ∧
                (∀ k, k ≠ m → t.module k = s.module k) ∧ t.dbc.bus = s.dbc.bus ∧
                t.pru = { s.pru with panelVerified :=
                  if m.isPanel then s.pru.panelVerified.set m.fp none else s.pru.panelVerified }))))) ∧
    (module.toNat = 0 → s.sps.displaySupply = true → (∀ f, s.inSale f = false) →
      (∃ resume, s.dbc.bus = .idle resume) →
      ∃ t, exec (.displayTest module) s = .next t ∧
        t.clp = s.clp.answering (.displayTest module) 0xE1 .ok .none 0 ∧
        ∀ k, (t.module k).stage ≠ .none ∧ ((s.module k).stage = .none → (t.module k).stage = .pattern))

/-! ### What every step keeps -/

/-- From R141 and R143 with R46, R142 and R144: whatever command is taken, the present entries keep distinct sequence
numbers below the next one, and every authorization goes on holding its own RESERVED or ACTIVE entry. -/
def Obligations.EveryStepKeepsTheJournal : Prop :=
  ∀ s t : State, step s = .next t → s.sj.numbered → s.entriesHeld → s.recoveringFresh →
    t.sj.numbered ∧ t.entriesHeld

/-- From R152 to R155: whatever command is taken, no item of the totalizer block falls or outgrows its width, and the
check word goes on matching the block unless the totals are corrupt or not yet checked. -/
def Obligations.EveryStepKeepsTheTotals : Prop :=
  ∀ s t : State, step s = .next t → s.recoveringFresh →
    (s.sj.totals.bounded → t.sj.totals.bounded ∧ Totals.le s.sj.totals t.sj.totals) ∧
    (s.checkWordKept → t.checkWordKept)

/-- From R39, R41, R75, R157, R182 and R185: whatever command is taken, no valve is driven outside FUELING, and in
RECOVERING the fueling points stay CLOSED by the site with no authorization and no hold entry, at stage W0 with the pulser
supply off and the totals not found corrupt. -/
def Obligations.EveryStepKeepsValvesShutOutsideFueling : Prop :=
  ∀ s t : State, step s = .next t → s.recoveringFresh →
    t.recoveringFresh ∧ (s.valvesKept → t.valvesKept)

/-- The state after reset has what every step keeps (R39, R141, R152, R155, R159, R185). -/
def Obligations.ResetStateIsSafe : Prop :=
  State.reset.sj.numbered ∧ State.reset.entriesHeld ∧ State.reset.recoveringFresh ∧ State.reset.valvesKept ∧
    State.reset.sj.totals.bounded ∧ State.reset.checkWordKept ∧ State.reset.pending = [] ∧
    State.reset.sps.seq = .recovering ∧ (∀ k, (State.reset.nu.get k).pending = false) ∧
    State.reset.riu.link = .off ∧ ∀ i, State.reset.sj.slot i = none

/-! ### The control link -/

/-- From R201, R203, R204 and R186: C3h in HUNTING starts a frame, and other bytes there are discarded; a late byte or
a byte that is no length discards the frame, counts one link error and is itself examined as a sync byte; the end of
the reply ends the request, and the held answer follows it; a completed store write holds the items it took with the
CRC-16 over them as its check word (over bytes laid out by the model's choice, assumption 14), and the reply that
waited for it alone begins. That a CONTROL_FRAME_COMPLETE sets METSW to the level it carries (assumption 8), and that
writes asked for behind a running one are counted (assumption 27), is the model's reading. -/
def Obligations.LinkGathersFramesAndSendsReplies : Prop :=
  ∀ (late : Byte) (s : State), s.resetHeld = none →
    (s.clp.receiver = .hunting →
      exec .controlSyncByte s = .next { s with clp := { s.clp with receiver := .receiving, buffer := [0xC3] } }) ∧
    (∀ bytes closed, s.clp.receiver = .hunting → s.clp.buffer = [] → (0xC3 : Byte) ∉ bytes →
      exec (.controlFrameComplete ⟨bytes, closed⟩) s = .next { s with pins := { s.pins with metsw := closed } }) ∧
    (s.clp.receiver = .receiving →
      exec (.controlByteTimeout late) s = .next { s with clp := { s.clp with
        linkErrors := min 65535 (s.clp.linkErrors + 1)
        receiver := if late = 0xC3 then .receiving else .hunting
        buffer := if late = 0xC3 then [0xC3] else [] } } ∧
      (s.clp.buffer = [0xC3] → late.toNat = 0 ∨ 121 < late.toNat →
        exec (.controlLengthReject late) s = .next { s with clp := { s.clp with
          linkErrors := min 65535 (s.clp.linkErrors + 1)
          receiver := if late = 0xC3 then .receiving else .hunting
          buffer := if late = 0xC3 then [0xC3] else [] } })) ∧
    (∀ o, s.clp.outstanding = some o → o.restarts = false → s.clp.sending = .reply →
      exec .replySent s = .next { s with clp := { s.clp with
        outstanding := none, sending := if s.clp.held.isSome then .held else .nothing } }) ∧
    (s.clp.sending = .held →
      exec .replySent s = .next { s with clp := { s.clp with
        held := none
        sending := (match s.clp.outstanding with
          | some o => if o.awaitWrites = 0 then .reply else .nothing
          | none => .nothing) } }) ∧
    (∀ w, s.sus.writing = some w →
      ∃ t, exec .storeWriteComplete s = .next t ∧ t.sus.stored = ⟨w.items, some (crc16 w.items.bytes)⟩ ∧
        (w.queued = 0 → t.sus.writing = none) ∧
        (0 < w.queued → ∃ v, t.sus.writing = some v ∧ v.queued = w.queued - 1 ∧ v.items.image = s.sus.image ∧
          v.items.schedule = s.sps.schedule ∧ v.items.policy = s.riu.policy ∧ v.items.prices = s.pru.current ∧
          v.items.generation = s.pru.generation) ∧
        (∀ o, s.clp.outstanding = some o → o.awaitWrites = 1 → s.clp.sending = .nothing →
          t.clp.sending = .reply ∧ t.clp.outstanding = some { o with awaitWrites := 0 }) ∧
        (∀ o, s.clp.outstanding = some o → 1 < o.awaitWrites →
          t.clp.sending = s.clp.sending ∧ t.clp.outstanding = some { o with awaitWrites := o.awaitWrites - 1 }) ∧
        t.sus.image = s.sus.image ∧ t.sus.edit = s.sus.edit ∧ t.fpc = s.fpc ∧ t.sps = s.sps ∧ t.sj = s.sj ∧
        t.pru = s.pru ∧ t.riu = s.riu ∧ t.nu = s.nu)

/-- From R200 to R202: the frame of every request is complete, its CRC matches, its kind and payload spell that
request again, and gathered after its sync byte it does exactly what the request's message row does. That both rows
carry the level of METSW, which the pin takes, is the model's choice (assumption 8). -/
def Obligations.FramesSpellTheirRequests : Prop :=
  ∀ (r : Request) (closed : Bool) (s : State), requestFits r → s.clp.receiver = .receiving → s.clp.buffer = [0xC3] →
    frameComplete (requestTail r) = true ∧ frameSound (requestTail r) = true ∧
      requestOf (frameKind (requestTail r)).toNat (framePayload (requestTail r)) = some r ∧
      ∀ c, messageOf closed r = some c →
        ∃ t, exec (.controlFrameComplete ⟨requestTail r, closed⟩) s = .next t ∧
          exec c { s with pins := { s.pins with metsw := closed } } = .next t

/-- From R202 and R203: a message that completes while a request is outstanding is the held answer BUSY of its kind,
or with an answer held already is only counted as a link error; one that completes in RECOVERING is answered BUSY,
unless it is GET_STATUS. A frame whose CRC does not match is answered FRAME_ERROR with kind FFh and counted; then, in
every state of the sequencer, one of a kind that Tables 10-5 to 10-10 do not have is answered UNKNOWN_KIND, with kind
FFh from 80h, and one of a length its kind does not allow BAD_LENGTH. Such frames too become the held answer while a
request is outstanding: BUSY, or FRAME_ERROR and counted where the CRC does not match; with an answer held already they
are only counted. Beside the link, nothing changes. -/
def Obligations.OvertakenAndBadFramesAreTurnedAway : Prop :=
  ∀ (s : State) (refused : Byte → Result → Nat → State), s.resetHeld = none →
    (∀ kind result errors, refused kind result errors = { s with clp := { s.clp with
      receiver := .hunting
      buffer := []
      linkErrors := errors
      outstanding := some ⟨none, ⟨kind, result, .none⟩, 0, false⟩
      sending := if s.clp.sending = .nothing then .reply else s.clp.sending } }) →
    (∀ (r : Request) (c : Instr), messageOf s.pins.metsw r = some c → r ≠ .leaveSetup ∨ s.sps.stage ≠ .s3 →
      (s.clp.outstanding.isSome →
        exec c s = .next { s with clp := { s.clp with
          receiver := .hunting
          buffer := []
          held := (match s.clp.held with
            | none => some ⟨requestKind r + 0x80, .busy, .none⟩
            | some a => some a)
          linkErrors :=
            if s.clp.held.isSome then min 65535 (s.clp.linkErrors + 1) else s.clp.linkErrors } }) ∧
      (s.clp.outstanding = none → s.sps.seq = .recovering → (∀ part, r ≠ .getStatus part) →
        exec c s = .next (s.answered r (requestKind r + 0x80) .busy .none))) ∧
    (∀ (bs : List Byte) (frame : Instr) (kind : Byte) (len : Nat), s.clp.receiver = .receiving →
      s.clp.buffer = [0xC3] → frameComplete bs = true → frame = .controlFrameComplete ⟨bs, s.pins.metsw⟩ →
      bs[0]? = some (BitVec.ofNat 8 len) → len < 256 → bs[1]? = some kind →
      (s.clp.outstanding = none →
        (frameSound bs = false →
          exec frame s = .next (refused 0xFF .frameError (min 65535 (s.clp.linkErrors + 1)))) ∧
        (frameSound bs = true →
          (0x80 ≤ kind.toNat → exec frame s = .next (refused 0xFF .unknownKind s.clp.linkErrors)) ∧
          (kind.toNat < 0x80 → (∀ x ∈ catalogue, x.1 ≠ kind.toNat) →
            exec frame s = .next (refused (kind + 0x80) .unknownKind s.clp.linkErrors)) ∧
          (∀ x ∈ catalogue, x.1 = kind.toNat → len < x.2.1 ∨ x.2.2 < len →
            exec frame s = .next (refused (kind + 0x80) .badLength s.clp.linkErrors)))) ∧
      (s.clp.outstanding.isSome → kind ≠ 0x51 ∨ s.sps.stage ≠ .s3 →
        exec frame s = .next { s with clp := { s.clp with
          receiver := .hunting
          buffer := []
          held := (match s.clp.held, frameSound bs with
            | some a, _ => some a
            | none, true => some ⟨if 0x80 ≤ kind.toNat then 0xFF else kind + 0x80, .busy, .none⟩
            | none, false => some ⟨0xFF, .frameError, .none⟩)
          linkErrors :=
            if s.clp.held.isSome = true ∨ frameSound bs = false then min 65535 (s.clp.linkErrors + 1)
            else s.clp.linkErrors } }))
end

