-- ==== Sys2Proof/Laws/State.lean ====
section
/-! SUPPORT. What each replacement of a block, a fueling point, a meter, a pump or a module leaves in every
block: one lemma per block per update, true by rfl. And reading one of several like things after writing one. -/

namespace Sys2Proof

@[simp] theorem PerFp.get_set_same {α : Type} (p : PerFp α) (i : Fp) (x : α) : (p.set i x).get i = x := by
  cases i <;> rfl

@[simp] theorem PerFp.get_set_of_ne {α : Type} (p : PerFp α) (i j : Fp) (x : α) (h : j ≠ i) :
    (p.set i x).get j = p.get j := by
  cases i <;> cases j <;> first | rfl | exact absurd rfl h

@[simp] theorem PerMeter.get_set_same {α : Type} (p : PerMeter α) (i : Meter) (x : α) : (p.set i x).get i = x := by
  cases i <;> rfl

@[simp] theorem PerMeter.get_set_of_ne {α : Type} (p : PerMeter α) (i j : Meter) (x : α) (h : j ≠ i) :
    (p.set i x).get j = p.get j := by
  cases i <;> cases j <;> first | rfl | exact absurd rfl h

@[simp] theorem PerPump.get_set_same {α : Type} (p : PerPump α) (i : Pump) (x : α) : (p.set i x).get i = x := by
  cases i <;> rfl

@[simp] theorem PerPump.get_set_of_ne {α : Type} (p : PerPump α) (i j : Pump) (x : α) (h : j ≠ i) :
    (p.set i x).get j = p.get j := by
  cases i <;> cases j <;> first | rfl | exact absurd rfl h

@[simp] theorem PerNozzle.get_set_same {α : Type} (p : PerNozzle α) (i : Nozzle) (x : α) : (p.set i x).get i = x := by
  cases i <;> rfl

@[simp] theorem PerNozzle.get_set_of_ne {α : Type} (p : PerNozzle α) (i j : Nozzle) (x : α) (h : j ≠ i) :
    (p.set i x).get j = p.get j := by
  cases i <;> cases j <;> first | rfl | exact absurd rfl h

@[simp] theorem PerGrade.get_set_same {α : Type} (p : PerGrade α) (i : Grade) (x : α) : (p.set i x).get i = x := by
  cases i <;> rfl

@[simp] theorem PerGrade.get_set_of_ne {α : Type} (p : PerGrade α) (i j : Grade) (x : α) (h : j ≠ i) :
    (p.set i x).get j = p.get j := by
  cases i <;> cases j <;> first | rfl | exact absurd rfl h

@[simp] theorem PerModule.get_set_same {α : Type} (p : PerModule α) (i : ModuleId) (x : α) : (p.set i x).get i = x := by
  cases i <;> rfl

@[simp] theorem PerModule.get_set_of_ne {α : Type} (p : PerModule α) (i j : ModuleId) (x : α) (h : j ≠ i) :
    (p.set i x).get j = p.get j := by
  cases i <;> cases j <;> first | rfl | exact absurd rfl h

@[simp] theorem PerField.get_set_same {α : Type} (p : PerField α) (i : FieldPos) (x : α) : (p.set i x).get i = x := by
  cases i <;> rfl

@[simp] theorem PerField.get_set_of_ne {α : Type} (p : PerField α) (i j : FieldPos) (x : α) (h : j ≠ i) :
    (p.set i x).get j = p.get j := by
  cases i <;> cases j <;> first | rfl | exact absurd rfl h

@[simp] theorem PerFp.get_map {α β : Type} (f : α → β) (p : PerFp α) (i : Fp) : (p.map f).get i = f (p.get i) := by
  cases i <;> rfl

@[simp] theorem PerMeter.get_map {α β : Type} (f : α → β) (p : PerMeter α) (i : Meter) : (p.map f).get i = f (p.get i) := by
  cases i <;> rfl

@[simp] theorem PerPump.get_map {α β : Type} (f : α → β) (p : PerPump α) (i : Pump) : (p.map f).get i = f (p.get i) := by
  cases i <;> rfl

@[simp] theorem PerNozzle.get_map {α β : Type} (f : α → β) (p : PerNozzle α) (i : Nozzle) : (p.map f).get i = f (p.get i) := by
  cases i <;> rfl

@[simp] theorem PerModule.get_map {α β : Type} (f : α → β) (p : PerModule α) (i : ModuleId) : (p.map f).get i = f (p.get i) := by
  cases i <;> rfl

@[simp] theorem PerField.get_map {α β : Type} (f : α → β) (p : PerField α) (i : FieldPos) : (p.map f).get i = f (p.get i) := by
  cases i <;> rfl

end Sys2Proof

namespace Sys2Proof.Machine

/-! ### One block replaced -/

@[simp] theorem State.withPending_pending (s : State) (x : List Instr) : (s.withPending x).pending = x := rfl
@[simp] theorem State.withPending_resetHeld (s : State) (x : List Instr) : (s.withPending x).resetHeld = s.resetHeld := rfl
@[simp] theorem State.withPending_pins (s : State) (x : List Instr) : (s.withPending x).pins = s.pins := rfl
@[simp] theorem State.withPending_clp (s : State) (x : List Instr) : (s.withPending x).clp = s.clp := rfl
@[simp] theorem State.withPending_nu (s : State) (x : List Instr) : (s.withPending x).nu = s.nu := rfl
@[simp] theorem State.withPending_miu (s : State) (x : List Instr) : (s.withPending x).miu = s.miu := rfl
@[simp] theorem State.withPending_fpc (s : State) (x : List Instr) : (s.withPending x).fpc = s.fpc := rfl
@[simp] theorem State.withPending_psg (s : State) (x : List Instr) : (s.withPending x).psg = s.psg := rfl
@[simp] theorem State.withPending_pru (s : State) (x : List Instr) : (s.withPending x).pru = s.pru := rfl
@[simp] theorem State.withPending_dbc (s : State) (x : List Instr) : (s.withPending x).dbc = s.dbc := rfl
@[simp] theorem State.withPending_riu (s : State) (x : List Instr) : (s.withPending x).riu = s.riu := rfl
@[simp] theorem State.withPending_sj (s : State) (x : List Instr) : (s.withPending x).sj = s.sj := rfl
@[simp] theorem State.withPending_sps (s : State) (x : List Instr) : (s.withPending x).sps = s.sps := rfl
@[simp] theorem State.withPending_sus (s : State) (x : List Instr) : (s.withPending x).sus = s.sus := rfl

@[simp] theorem State.withResetHeld_pending (s : State) (x : Option ResetCause) : (s.withResetHeld x).pending = s.pending := rfl
@[simp] theorem State.withResetHeld_resetHeld (s : State) (x : Option ResetCause) : (s.withResetHeld x).resetHeld = x := rfl
@[simp] theorem State.withResetHeld_pins (s : State) (x : Option ResetCause) : (s.withResetHeld x).pins = s.pins := rfl
@[simp] theorem State.withResetHeld_clp (s : State) (x : Option ResetCause) : (s.withResetHeld x).clp = s.clp := rfl
@[simp] theorem State.withResetHeld_nu (s : State) (x : Option ResetCause) : (s.withResetHeld x).nu = s.nu := rfl
@[simp] theorem State.withResetHeld_miu (s : State) (x : Option ResetCause) : (s.withResetHeld x).miu = s.miu := rfl
@[simp] theorem State.withResetHeld_fpc (s : State) (x : Option ResetCause) : (s.withResetHeld x).fpc = s.fpc := rfl
@[simp] theorem State.withResetHeld_psg (s : State) (x : Option ResetCause) : (s.withResetHeld x).psg = s.psg := rfl
@[simp] theorem State.withResetHeld_pru (s : State) (x : Option ResetCause) : (s.withResetHeld x).pru = s.pru := rfl
@[simp] theorem State.withResetHeld_dbc (s : State) (x : Option ResetCause) : (s.withResetHeld x).dbc = s.dbc := rfl
@[simp] theorem State.withResetHeld_riu (s : State) (x : Option ResetCause) : (s.withResetHeld x).riu = s.riu := rfl
@[simp] theorem State.withResetHeld_sj (s : State) (x : Option ResetCause) : (s.withResetHeld x).sj = s.sj := rfl
@[simp] theorem State.withResetHeld_sps (s : State) (x : Option ResetCause) : (s.withResetHeld x).sps = s.sps := rfl
@[simp] theorem State.withResetHeld_sus (s : State) (x : Option ResetCause) : (s.withResetHeld x).sus = s.sus := rfl

@[simp] theorem State.withMetsw_resetHeld (s : State) (c : Bool) : (s.withMetsw c).resetHeld = s.resetHeld := rfl
@[simp] theorem State.withMetsw_pending (s : State) (c : Bool) : (s.withMetsw c).pending = s.pending := rfl
@[simp] theorem State.withMetsw_clp (s : State) (c : Bool) : (s.withMetsw c).clp = s.clp := rfl
@[simp] theorem State.withMetsw_nu (s : State) (c : Bool) : (s.withMetsw c).nu = s.nu := rfl
@[simp] theorem State.withMetsw_miu (s : State) (c : Bool) : (s.withMetsw c).miu = s.miu := rfl
@[simp] theorem State.withMetsw_fpc (s : State) (c : Bool) : (s.withMetsw c).fpc = s.fpc := rfl
@[simp] theorem State.withMetsw_psg (s : State) (c : Bool) : (s.withMetsw c).psg = s.psg := rfl
@[simp] theorem State.withMetsw_pru (s : State) (c : Bool) : (s.withMetsw c).pru = s.pru := rfl
@[simp] theorem State.withMetsw_dbc (s : State) (c : Bool) : (s.withMetsw c).dbc = s.dbc := rfl
@[simp] theorem State.withMetsw_riu (s : State) (c : Bool) : (s.withMetsw c).riu = s.riu := rfl
@[simp] theorem State.withMetsw_sj (s : State) (c : Bool) : (s.withMetsw c).sj = s.sj := rfl
@[simp] theorem State.withMetsw_sps (s : State) (c : Bool) : (s.withMetsw c).sps = s.sps := rfl
@[simp] theorem State.withMetsw_sus (s : State) (c : Bool) : (s.withMetsw c).sus = s.sus := rfl
@[simp] theorem State.withMetsw_pins (s : State) (c : Bool) : (s.withMetsw c).pins = { s.pins with metsw := c } := rfl

@[simp] theorem State.withPins_pending (s : State) (x : Pins) : (s.withPins x).pending = s.pending := rfl
@[simp] theorem State.withPins_resetHeld (s : State) (x : Pins) : (s.withPins x).resetHeld = s.resetHeld := rfl
@[simp] theorem State.withPins_pins (s : State) (x : Pins) : (s.withPins x).pins = x := rfl
@[simp] theorem State.withPins_clp (s : State) (x : Pins) : (s.withPins x).clp = s.clp := rfl
@[simp] theorem State.withPins_nu (s : State) (x : Pins) : (s.withPins x).nu = s.nu := rfl
@[simp] theorem State.withPins_miu (s : State) (x : Pins) : (s.withPins x).miu = s.miu := rfl
@[simp] theorem State.withPins_fpc (s : State) (x : Pins) : (s.withPins x).fpc = s.fpc := rfl
@[simp] theorem State.withPins_psg (s : State) (x : Pins) : (s.withPins x).psg = s.psg := rfl
@[simp] theorem State.withPins_pru (s : State) (x : Pins) : (s.withPins x).pru = s.pru := rfl
@[simp] theorem State.withPins_dbc (s : State) (x : Pins) : (s.withPins x).dbc = s.dbc := rfl
@[simp] theorem State.withPins_riu (s : State) (x : Pins) : (s.withPins x).riu = s.riu := rfl
@[simp] theorem State.withPins_sj (s : State) (x : Pins) : (s.withPins x).sj = s.sj := rfl
@[simp] theorem State.withPins_sps (s : State) (x : Pins) : (s.withPins x).sps = s.sps := rfl
@[simp] theorem State.withPins_sus (s : State) (x : Pins) : (s.withPins x).sus = s.sus := rfl

@[simp] theorem State.withClp_pending (s : State) (x : Clp) : (s.withClp x).pending = s.pending := rfl
@[simp] theorem State.withClp_resetHeld (s : State) (x : Clp) : (s.withClp x).resetHeld = s.resetHeld := rfl
@[simp] theorem State.withClp_pins (s : State) (x : Clp) : (s.withClp x).pins = s.pins := rfl
@[simp] theorem State.withClp_clp (s : State) (x : Clp) : (s.withClp x).clp = x := rfl
@[simp] theorem State.withClp_nu (s : State) (x : Clp) : (s.withClp x).nu = s.nu := rfl
@[simp] theorem State.withClp_miu (s : State) (x : Clp) : (s.withClp x).miu = s.miu := rfl
@[simp] theorem State.withClp_fpc (s : State) (x : Clp) : (s.withClp x).fpc = s.fpc := rfl
@[simp] theorem State.withClp_psg (s : State) (x : Clp) : (s.withClp x).psg = s.psg := rfl
@[simp] theorem State.withClp_pru (s : State) (x : Clp) : (s.withClp x).pru = s.pru := rfl
@[simp] theorem State.withClp_dbc (s : State) (x : Clp) : (s.withClp x).dbc = s.dbc := rfl
@[simp] theorem State.withClp_riu (s : State) (x : Clp) : (s.withClp x).riu = s.riu := rfl
@[simp] theorem State.withClp_sj (s : State) (x : Clp) : (s.withClp x).sj = s.sj := rfl
@[simp] theorem State.withClp_sps (s : State) (x : Clp) : (s.withClp x).sps = s.sps := rfl
@[simp] theorem State.withClp_sus (s : State) (x : Clp) : (s.withClp x).sus = s.sus := rfl

@[simp] theorem State.withNu_pending (s : State) (x : Nu) : (s.withNu x).pending = s.pending := rfl
@[simp] theorem State.withNu_resetHeld (s : State) (x : Nu) : (s.withNu x).resetHeld = s.resetHeld := rfl
@[simp] theorem State.withNu_pins (s : State) (x : Nu) : (s.withNu x).pins = s.pins := rfl
@[simp] theorem State.withNu_clp (s : State) (x : Nu) : (s.withNu x).clp = s.clp := rfl
@[simp] theorem State.withNu_nu (s : State) (x : Nu) : (s.withNu x).nu = x := rfl
@[simp] theorem State.withNu_miu (s : State) (x : Nu) : (s.withNu x).miu = s.miu := rfl
@[simp] theorem State.withNu_fpc (s : State) (x : Nu) : (s.withNu x).fpc = s.fpc := rfl
@[simp] theorem State.withNu_psg (s : State) (x : Nu) : (s.withNu x).psg = s.psg := rfl
@[simp] theorem State.withNu_pru (s : State) (x : Nu) : (s.withNu x).pru = s.pru := rfl
@[simp] theorem State.withNu_dbc (s : State) (x : Nu) : (s.withNu x).dbc = s.dbc := rfl
@[simp] theorem State.withNu_riu (s : State) (x : Nu) : (s.withNu x).riu = s.riu := rfl
@[simp] theorem State.withNu_sj (s : State) (x : Nu) : (s.withNu x).sj = s.sj := rfl
@[simp] theorem State.withNu_sps (s : State) (x : Nu) : (s.withNu x).sps = s.sps := rfl
@[simp] theorem State.withNu_sus (s : State) (x : Nu) : (s.withNu x).sus = s.sus := rfl

@[simp] theorem State.withMiu_pending (s : State) (x : Miu) : (s.withMiu x).pending = s.pending := rfl
@[simp] theorem State.withMiu_resetHeld (s : State) (x : Miu) : (s.withMiu x).resetHeld = s.resetHeld := rfl
@[simp] theorem State.withMiu_pins (s : State) (x : Miu) : (s.withMiu x).pins = s.pins := rfl
@[simp] theorem State.withMiu_clp (s : State) (x : Miu) : (s.withMiu x).clp = s.clp := rfl
@[simp] theorem State.withMiu_nu (s : State) (x : Miu) : (s.withMiu x).nu = s.nu := rfl
@[simp] theorem State.withMiu_miu (s : State) (x : Miu) : (s.withMiu x).miu = x := rfl
@[simp] theorem State.withMiu_fpc (s : State) (x : Miu) : (s.withMiu x).fpc = s.fpc := rfl
@[simp] theorem State.withMiu_psg (s : State) (x : Miu) : (s.withMiu x).psg = s.psg := rfl
@[simp] theorem State.withMiu_pru (s : State) (x : Miu) : (s.withMiu x).pru = s.pru := rfl
@[simp] theorem State.withMiu_dbc (s : State) (x : Miu) : (s.withMiu x).dbc = s.dbc := rfl
@[simp] theorem State.withMiu_riu (s : State) (x : Miu) : (s.withMiu x).riu = s.riu := rfl
@[simp] theorem State.withMiu_sj (s : State) (x : Miu) : (s.withMiu x).sj = s.sj := rfl
@[simp] theorem State.withMiu_sps (s : State) (x : Miu) : (s.withMiu x).sps = s.sps := rfl
@[simp] theorem State.withMiu_sus (s : State) (x : Miu) : (s.withMiu x).sus = s.sus := rfl

@[simp] theorem State.withFpc_pending (s : State) (x : PerFp Fpc) : (s.withFpc x).pending = s.pending := rfl
@[simp] theorem State.withFpc_resetHeld (s : State) (x : PerFp Fpc) : (s.withFpc x).resetHeld = s.resetHeld := rfl
@[simp] theorem State.withFpc_pins (s : State) (x : PerFp Fpc) : (s.withFpc x).pins = s.pins := rfl
@[simp] theorem State.withFpc_clp (s : State) (x : PerFp Fpc) : (s.withFpc x).clp = s.clp := rfl
@[simp] theorem State.withFpc_nu (s : State) (x : PerFp Fpc) : (s.withFpc x).nu = s.nu := rfl
@[simp] theorem State.withFpc_miu (s : State) (x : PerFp Fpc) : (s.withFpc x).miu = s.miu := rfl
@[simp] theorem State.withFpc_fpc (s : State) (x : PerFp Fpc) : (s.withFpc x).fpc = x := rfl
@[simp] theorem State.withFpc_psg (s : State) (x : PerFp Fpc) : (s.withFpc x).psg = s.psg := rfl
@[simp] theorem State.withFpc_pru (s : State) (x : PerFp Fpc) : (s.withFpc x).pru = s.pru := rfl
@[simp] theorem State.withFpc_dbc (s : State) (x : PerFp Fpc) : (s.withFpc x).dbc = s.dbc := rfl
@[simp] theorem State.withFpc_riu (s : State) (x : PerFp Fpc) : (s.withFpc x).riu = s.riu := rfl
@[simp] theorem State.withFpc_sj (s : State) (x : PerFp Fpc) : (s.withFpc x).sj = s.sj := rfl
@[simp] theorem State.withFpc_sps (s : State) (x : PerFp Fpc) : (s.withFpc x).sps = s.sps := rfl
@[simp] theorem State.withFpc_sus (s : State) (x : PerFp Fpc) : (s.withFpc x).sus = s.sus := rfl

@[simp] theorem State.withPsg_pending (s : State) (x : Psg) : (s.withPsg x).pending = s.pending := rfl
@[simp] theorem State.withPsg_resetHeld (s : State) (x : Psg) : (s.withPsg x).resetHeld = s.resetHeld := rfl
@[simp] theorem State.withPsg_pins (s : State) (x : Psg) : (s.withPsg x).pins = s.pins := rfl
@[simp] theorem State.withPsg_clp (s : State) (x : Psg) : (s.withPsg x).clp = s.clp := rfl
@[simp] theorem State.withPsg_nu (s : State) (x : Psg) : (s.withPsg x).nu = s.nu := rfl
@[simp] theorem State.withPsg_miu (s : State) (x : Psg) : (s.withPsg x).miu = s.miu := rfl
@[simp] theorem State.withPsg_fpc (s : State) (x : Psg) : (s.withPsg x).fpc = s.fpc := rfl
@[simp] theorem State.withPsg_psg (s : State) (x : Psg) : (s.withPsg x).psg = x := rfl
@[simp] theorem State.withPsg_pru (s : State) (x : Psg) : (s.withPsg x).pru = s.pru := rfl
@[simp] theorem State.withPsg_dbc (s : State) (x : Psg) : (s.withPsg x).dbc = s.dbc := rfl
@[simp] theorem State.withPsg_riu (s : State) (x : Psg) : (s.withPsg x).riu = s.riu := rfl
@[simp] theorem State.withPsg_sj (s : State) (x : Psg) : (s.withPsg x).sj = s.sj := rfl
@[simp] theorem State.withPsg_sps (s : State) (x : Psg) : (s.withPsg x).sps = s.sps := rfl
@[simp] theorem State.withPsg_sus (s : State) (x : Psg) : (s.withPsg x).sus = s.sus := rfl

@[simp] theorem State.withPru_pending (s : State) (x : Pru) : (s.withPru x).pending = s.pending := rfl
@[simp] theorem State.withPru_resetHeld (s : State) (x : Pru) : (s.withPru x).resetHeld = s.resetHeld := rfl
@[simp] theorem State.withPru_pins (s : State) (x : Pru) : (s.withPru x).pins = s.pins := rfl
@[simp] theorem State.withPru_clp (s : State) (x : Pru) : (s.withPru x).clp = s.clp := rfl
@[simp] theorem State.withPru_nu (s : State) (x : Pru) : (s.withPru x).nu = s.nu := rfl
@[simp] theorem State.withPru_miu (s : State) (x : Pru) : (s.withPru x).miu = s.miu := rfl
@[simp] theorem State.withPru_fpc (s : State) (x : Pru) : (s.withPru x).fpc = s.fpc := rfl
@[simp] theorem State.withPru_psg (s : State) (x : Pru) : (s.withPru x).psg = s.psg := rfl
@[simp] theorem State.withPru_pru (s : State) (x : Pru) : (s.withPru x).pru = x := rfl
@[simp] theorem State.withPru_dbc (s : State) (x : Pru) : (s.withPru x).dbc = s.dbc := rfl
@[simp] theorem State.withPru_riu (s : State) (x : Pru) : (s.withPru x).riu = s.riu := rfl
@[simp] theorem State.withPru_sj (s : State) (x : Pru) : (s.withPru x).sj = s.sj := rfl
@[simp] theorem State.withPru_sps (s : State) (x : Pru) : (s.withPru x).sps = s.sps := rfl
@[simp] theorem State.withPru_sus (s : State) (x : Pru) : (s.withPru x).sus = s.sus := rfl

@[simp] theorem State.withDbc_pending (s : State) (x : Dbc) : (s.withDbc x).pending = s.pending := rfl
@[simp] theorem State.withDbc_resetHeld (s : State) (x : Dbc) : (s.withDbc x).resetHeld = s.resetHeld := rfl
@[simp] theorem State.withDbc_pins (s : State) (x : Dbc) : (s.withDbc x).pins = s.pins := rfl
@[simp] theorem State.withDbc_clp (s : State) (x : Dbc) : (s.withDbc x).clp = s.clp := rfl
@[simp] theorem State.withDbc_nu (s : State) (x : Dbc) : (s.withDbc x).nu = s.nu := rfl
@[simp] theorem State.withDbc_miu (s : State) (x : Dbc) : (s.withDbc x).miu = s.miu := rfl
@[simp] theorem State.withDbc_fpc (s : State) (x : Dbc) : (s.withDbc x).fpc = s.fpc := rfl
@[simp] theorem State.withDbc_psg (s : State) (x : Dbc) : (s.withDbc x).psg = s.psg := rfl
@[simp] theorem State.withDbc_pru (s : State) (x : Dbc) : (s.withDbc x).pru = s.pru := rfl
@[simp] theorem State.withDbc_dbc (s : State) (x : Dbc) : (s.withDbc x).dbc = x := rfl
@[simp] theorem State.withDbc_riu (s : State) (x : Dbc) : (s.withDbc x).riu = s.riu := rfl
@[simp] theorem State.withDbc_sj (s : State) (x : Dbc) : (s.withDbc x).sj = s.sj := rfl
@[simp] theorem State.withDbc_sps (s : State) (x : Dbc) : (s.withDbc x).sps = s.sps := rfl
@[simp] theorem State.withDbc_sus (s : State) (x : Dbc) : (s.withDbc x).sus = s.sus := rfl

@[simp] theorem State.withRiu_pending (s : State) (x : Riu) : (s.withRiu x).pending = s.pending := rfl
@[simp] theorem State.withRiu_resetHeld (s : State) (x : Riu) : (s.withRiu x).resetHeld = s.resetHeld := rfl
@[simp] theorem State.withRiu_pins (s : State) (x : Riu) : (s.withRiu x).pins = s.pins := rfl
@[simp] theorem State.withRiu_clp (s : State) (x : Riu) : (s.withRiu x).clp = s.clp := rfl
@[simp] theorem State.withRiu_nu (s : State) (x : Riu) : (s.withRiu x).nu = s.nu := rfl
@[simp] theorem State.withRiu_miu (s : State) (x : Riu) : (s.withRiu x).miu = s.miu := rfl
@[simp] theorem State.withRiu_fpc (s : State) (x : Riu) : (s.withRiu x).fpc = s.fpc := rfl
@[simp] theorem State.withRiu_psg (s : State) (x : Riu) : (s.withRiu x).psg = s.psg := rfl
@[simp] theorem State.withRiu_pru (s : State) (x : Riu) : (s.withRiu x).pru = s.pru := rfl
@[simp] theorem State.withRiu_dbc (s : State) (x : Riu) : (s.withRiu x).dbc = s.dbc := rfl
@[simp] theorem State.withRiu_riu (s : State) (x : Riu) : (s.withRiu x).riu = x := rfl
@[simp] theorem State.withRiu_sj (s : State) (x : Riu) : (s.withRiu x).sj = s.sj := rfl
@[simp] theorem State.withRiu_sps (s : State) (x : Riu) : (s.withRiu x).sps = s.sps := rfl
@[simp] theorem State.withRiu_sus (s : State) (x : Riu) : (s.withRiu x).sus = s.sus := rfl

@[simp] theorem State.withSj_pending (s : State) (x : Sj) : (s.withSj x).pending = s.pending := rfl
@[simp] theorem State.withSj_resetHeld (s : State) (x : Sj) : (s.withSj x).resetHeld = s.resetHeld := rfl
@[simp] theorem State.withSj_pins (s : State) (x : Sj) : (s.withSj x).pins = s.pins := rfl
@[simp] theorem State.withSj_clp (s : State) (x : Sj) : (s.withSj x).clp = s.clp := rfl
@[simp] theorem State.withSj_nu (s : State) (x : Sj) : (s.withSj x).nu = s.nu := rfl
@[simp] theorem State.withSj_miu (s : State) (x : Sj) : (s.withSj x).miu = s.miu := rfl
@[simp] theorem State.withSj_fpc (s : State) (x : Sj) : (s.withSj x).fpc = s.fpc := rfl
@[simp] theorem State.withSj_psg (s : State) (x : Sj) : (s.withSj x).psg = s.psg := rfl
@[simp] theorem State.withSj_pru (s : State) (x : Sj) : (s.withSj x).pru = s.pru := rfl
@[simp] theorem State.withSj_dbc (s : State) (x : Sj) : (s.withSj x).dbc = s.dbc := rfl
@[simp] theorem State.withSj_riu (s : State) (x : Sj) : (s.withSj x).riu = s.riu := rfl
@[simp] theorem State.withSj_sj (s : State) (x : Sj) : (s.withSj x).sj = x := rfl
@[simp] theorem State.withSj_sps (s : State) (x : Sj) : (s.withSj x).sps = s.sps := rfl
@[simp] theorem State.withSj_sus (s : State) (x : Sj) : (s.withSj x).sus = s.sus := rfl

@[simp] theorem State.withSps_pending (s : State) (x : Sps) : (s.withSps x).pending = s.pending := rfl
@[simp] theorem State.withSps_resetHeld (s : State) (x : Sps) : (s.withSps x).resetHeld = s.resetHeld := rfl
@[simp] theorem State.withSps_pins (s : State) (x : Sps) : (s.withSps x).pins = s.pins := rfl
@[simp] theorem State.withSps_clp (s : State) (x : Sps) : (s.withSps x).clp = s.clp := rfl
@[simp] theorem State.withSps_nu (s : State) (x : Sps) : (s.withSps x).nu = s.nu := rfl
@[simp] theorem State.withSps_miu (s : State) (x : Sps) : (s.withSps x).miu = s.miu := rfl
@[simp] theorem State.withSps_fpc (s : State) (x : Sps) : (s.withSps x).fpc = s.fpc := rfl
@[simp] theorem State.withSps_psg (s : State) (x : Sps) : (s.withSps x).psg = s.psg := rfl
@[simp] theorem State.withSps_pru (s : State) (x : Sps) : (s.withSps x).pru = s.pru := rfl
@[simp] theorem State.withSps_dbc (s : State) (x : Sps) : (s.withSps x).dbc = s.dbc := rfl
@[simp] theorem State.withSps_riu (s : State) (x : Sps) : (s.withSps x).riu = s.riu := rfl
@[simp] theorem State.withSps_sj (s : State) (x : Sps) : (s.withSps x).sj = s.sj := rfl
@[simp] theorem State.withSps_sps (s : State) (x : Sps) : (s.withSps x).sps = x := rfl
@[simp] theorem State.withSps_sus (s : State) (x : Sps) : (s.withSps x).sus = s.sus := rfl

@[simp] theorem State.withSus_pending (s : State) (x : Sus) : (s.withSus x).pending = s.pending := rfl
@[simp] theorem State.withSus_resetHeld (s : State) (x : Sus) : (s.withSus x).resetHeld = s.resetHeld := rfl
@[simp] theorem State.withSus_pins (s : State) (x : Sus) : (s.withSus x).pins = s.pins := rfl
@[simp] theorem State.withSus_clp (s : State) (x : Sus) : (s.withSus x).clp = s.clp := rfl
@[simp] theorem State.withSus_nu (s : State) (x : Sus) : (s.withSus x).nu = s.nu := rfl
@[simp] theorem State.withSus_miu (s : State) (x : Sus) : (s.withSus x).miu = s.miu := rfl
@[simp] theorem State.withSus_fpc (s : State) (x : Sus) : (s.withSus x).fpc = s.fpc := rfl
@[simp] theorem State.withSus_psg (s : State) (x : Sus) : (s.withSus x).psg = s.psg := rfl
@[simp] theorem State.withSus_pru (s : State) (x : Sus) : (s.withSus x).pru = s.pru := rfl
@[simp] theorem State.withSus_dbc (s : State) (x : Sus) : (s.withSus x).dbc = s.dbc := rfl
@[simp] theorem State.withSus_riu (s : State) (x : Sus) : (s.withSus x).riu = s.riu := rfl
@[simp] theorem State.withSus_sj (s : State) (x : Sus) : (s.withSus x).sj = s.sj := rfl
@[simp] theorem State.withSus_sps (s : State) (x : Sus) : (s.withSus x).sps = s.sps := rfl
@[simp] theorem State.withSus_sus (s : State) (x : Sus) : (s.withSus x).sus = x := rfl

/-! ### The views through a replaced block -/

@[simp] theorem State.withPending_fp (s : State) (x : List Instr) (i : Fp) : (s.withPending x).fp i = s.fp i := rfl
@[simp] theorem State.withPending_meter (s : State) (x : List Instr) (i : Meter) : (s.withPending x).meter i = s.meter i := rfl
@[simp] theorem State.withPending_pump (s : State) (x : List Instr) (i : Pump) : (s.withPending x).pump i = s.pump i := rfl
@[simp] theorem State.withPending_module (s : State) (x : List Instr) (i : ModuleId) : (s.withPending x).module i = s.module i := rfl
@[simp] theorem State.withPending_inSale (s : State) (x : List Instr) (i : Fp) : (s.withPending x).inSale i = s.inSale i := rfl

@[simp] theorem State.withResetHeld_fp (s : State) (x : Option ResetCause) (i : Fp) : (s.withResetHeld x).fp i = s.fp i := rfl
@[simp] theorem State.withResetHeld_meter (s : State) (x : Option ResetCause) (i : Meter) : (s.withResetHeld x).meter i = s.meter i := rfl
@[simp] theorem State.withResetHeld_pump (s : State) (x : Option ResetCause) (i : Pump) : (s.withResetHeld x).pump i = s.pump i := rfl
@[simp] theorem State.withResetHeld_module (s : State) (x : Option ResetCause) (i : ModuleId) : (s.withResetHeld x).module i = s.module i := rfl
@[simp] theorem State.withResetHeld_inSale (s : State) (x : Option ResetCause) (i : Fp) : (s.withResetHeld x).inSale i = s.inSale i := rfl

@[simp] theorem State.withPins_fp (s : State) (x : Pins) (i : Fp) : (s.withPins x).fp i = s.fp i := rfl
@[simp] theorem State.withPins_meter (s : State) (x : Pins) (i : Meter) : (s.withPins x).meter i = s.meter i := rfl
@[simp] theorem State.withPins_pump (s : State) (x : Pins) (i : Pump) : (s.withPins x).pump i = s.pump i := rfl
@[simp] theorem State.withPins_module (s : State) (x : Pins) (i : ModuleId) : (s.withPins x).module i = s.module i := rfl
@[simp] theorem State.withPins_inSale (s : State) (x : Pins) (i : Fp) : (s.withPins x).inSale i = s.inSale i := rfl

@[simp] theorem State.withClp_fp (s : State) (x : Clp) (i : Fp) : (s.withClp x).fp i = s.fp i := rfl
@[simp] theorem State.withClp_meter (s : State) (x : Clp) (i : Meter) : (s.withClp x).meter i = s.meter i := rfl
@[simp] theorem State.withClp_pump (s : State) (x : Clp) (i : Pump) : (s.withClp x).pump i = s.pump i := rfl
@[simp] theorem State.withClp_module (s : State) (x : Clp) (i : ModuleId) : (s.withClp x).module i = s.module i := rfl
@[simp] theorem State.withClp_inSale (s : State) (x : Clp) (i : Fp) : (s.withClp x).inSale i = s.inSale i := rfl

@[simp] theorem State.withNu_fp (s : State) (x : Nu) (i : Fp) : (s.withNu x).fp i = s.fp i := rfl
@[simp] theorem State.withNu_meter (s : State) (x : Nu) (i : Meter) : (s.withNu x).meter i = s.meter i := rfl
@[simp] theorem State.withNu_pump (s : State) (x : Nu) (i : Pump) : (s.withNu x).pump i = s.pump i := rfl
@[simp] theorem State.withNu_module (s : State) (x : Nu) (i : ModuleId) : (s.withNu x).module i = s.module i := rfl
@[simp] theorem State.withNu_inSale (s : State) (x : Nu) (i : Fp) : (s.withNu x).inSale i = s.inSale i := rfl

@[simp] theorem State.withMiu_fp (s : State) (x : Miu) (i : Fp) : (s.withMiu x).fp i = s.fp i := rfl
@[simp] theorem State.withMiu_pump (s : State) (x : Miu) (i : Pump) : (s.withMiu x).pump i = s.pump i := rfl
@[simp] theorem State.withMiu_module (s : State) (x : Miu) (i : ModuleId) : (s.withMiu x).module i = s.module i := rfl
@[simp] theorem State.withMiu_inSale (s : State) (x : Miu) (i : Fp) : (s.withMiu x).inSale i = s.inSale i := rfl

@[simp] theorem State.withFpc_meter (s : State) (x : PerFp Fpc) (i : Meter) : (s.withFpc x).meter i = s.meter i := rfl
@[simp] theorem State.withFpc_pump (s : State) (x : PerFp Fpc) (i : Pump) : (s.withFpc x).pump i = s.pump i := rfl
@[simp] theorem State.withFpc_module (s : State) (x : PerFp Fpc) (i : ModuleId) : (s.withFpc x).module i = s.module i := rfl

@[simp] theorem State.withPsg_fp (s : State) (x : Psg) (i : Fp) : (s.withPsg x).fp i = s.fp i := rfl
@[simp] theorem State.withPsg_meter (s : State) (x : Psg) (i : Meter) : (s.withPsg x).meter i = s.meter i := rfl
@[simp] theorem State.withPsg_module (s : State) (x : Psg) (i : ModuleId) : (s.withPsg x).module i = s.module i := rfl
@[simp] theorem State.withPsg_inSale (s : State) (x : Psg) (i : Fp) : (s.withPsg x).inSale i = s.inSale i := rfl

@[simp] theorem State.withPru_fp (s : State) (x : Pru) (i : Fp) : (s.withPru x).fp i = s.fp i := rfl
@[simp] theorem State.withPru_meter (s : State) (x : Pru) (i : Meter) : (s.withPru x).meter i = s.meter i := rfl
@[simp] theorem State.withPru_pump (s : State) (x : Pru) (i : Pump) : (s.withPru x).pump i = s.pump i := rfl
@[simp] theorem State.withPru_module (s : State) (x : Pru) (i : ModuleId) : (s.withPru x).module i = s.module i := rfl
@[simp] theorem State.withPru_inSale (s : State) (x : Pru) (i : Fp) : (s.withPru x).inSale i = s.inSale i := rfl

@[simp] theorem State.withDbc_fp (s : State) (x : Dbc) (i : Fp) : (s.withDbc x).fp i = s.fp i := rfl
@[simp] theorem State.withDbc_meter (s : State) (x : Dbc) (i : Meter) : (s.withDbc x).meter i = s.meter i := rfl
@[simp] theorem State.withDbc_pump (s : State) (x : Dbc) (i : Pump) : (s.withDbc x).pump i = s.pump i := rfl
@[simp] theorem State.withDbc_inSale (s : State) (x : Dbc) (i : Fp) : (s.withDbc x).inSale i = s.inSale i := rfl

@[simp] theorem State.withRiu_fp (s : State) (x : Riu) (i : Fp) : (s.withRiu x).fp i = s.fp i := rfl
@[simp] theorem State.withRiu_meter (s : State) (x : Riu) (i : Meter) : (s.withRiu x).meter i = s.meter i := rfl
@[simp] theorem State.withRiu_pump (s : State) (x : Riu) (i : Pump) : (s.withRiu x).pump i = s.pump i := rfl
@[simp] theorem State.withRiu_module (s : State) (x : Riu) (i : ModuleId) : (s.withRiu x).module i = s.module i := rfl
@[simp] theorem State.withRiu_inSale (s : State) (x : Riu) (i : Fp) : (s.withRiu x).inSale i = s.inSale i := rfl

@[simp] theorem State.withSj_fp (s : State) (x : Sj) (i : Fp) : (s.withSj x).fp i = s.fp i := rfl
@[simp] theorem State.withSj_meter (s : State) (x : Sj) (i : Meter) : (s.withSj x).meter i = s.meter i := rfl
@[simp] theorem State.withSj_pump (s : State) (x : Sj) (i : Pump) : (s.withSj x).pump i = s.pump i := rfl
@[simp] theorem State.withSj_module (s : State) (x : Sj) (i : ModuleId) : (s.withSj x).module i = s.module i := rfl
@[simp] theorem State.withSj_inSale (s : State) (x : Sj) (i : Fp) : (s.withSj x).inSale i = s.inSale i := rfl

@[simp] theorem State.withSps_fp (s : State) (x : Sps) (i : Fp) : (s.withSps x).fp i = s.fp i := rfl
@[simp] theorem State.withSps_meter (s : State) (x : Sps) (i : Meter) : (s.withSps x).meter i = s.meter i := rfl
@[simp] theorem State.withSps_pump (s : State) (x : Sps) (i : Pump) : (s.withSps x).pump i = s.pump i := rfl
@[simp] theorem State.withSps_module (s : State) (x : Sps) (i : ModuleId) : (s.withSps x).module i = s.module i := rfl
@[simp] theorem State.withSps_inSale (s : State) (x : Sps) (i : Fp) : (s.withSps x).inSale i = s.inSale i := rfl

@[simp] theorem State.withSus_fp (s : State) (x : Sus) (i : Fp) : (s.withSus x).fp i = s.fp i := rfl
@[simp] theorem State.withSus_meter (s : State) (x : Sus) (i : Meter) : (s.withSus x).meter i = s.meter i := rfl
@[simp] theorem State.withSus_pump (s : State) (x : Sus) (i : Pump) : (s.withSus x).pump i = s.pump i := rfl
@[simp] theorem State.withSus_module (s : State) (x : Sus) (i : ModuleId) : (s.withSus x).module i = s.module i := rfl
@[simp] theorem State.withSus_inSale (s : State) (x : Sus) (i : Fp) : (s.withSus x).inSale i = s.inSale i := rfl

/-! ### One of several replaced -/

@[simp] theorem State.setFp_pending (s : State) (i : Fp) (x : Fpc) : (s.setFp i x).pending = s.pending := rfl
@[simp] theorem State.setFp_resetHeld (s : State) (i : Fp) (x : Fpc) : (s.setFp i x).resetHeld = s.resetHeld := rfl
@[simp] theorem State.setFp_pins (s : State) (i : Fp) (x : Fpc) : (s.setFp i x).pins = s.pins := rfl
@[simp] theorem State.setFp_clp (s : State) (i : Fp) (x : Fpc) : (s.setFp i x).clp = s.clp := rfl
@[simp] theorem State.setFp_nu (s : State) (i : Fp) (x : Fpc) : (s.setFp i x).nu = s.nu := rfl
@[simp] theorem State.setFp_miu (s : State) (i : Fp) (x : Fpc) : (s.setFp i x).miu = s.miu := rfl
@[simp] theorem State.setFp_psg (s : State) (i : Fp) (x : Fpc) : (s.setFp i x).psg = s.psg := rfl
@[simp] theorem State.setFp_pru (s : State) (i : Fp) (x : Fpc) : (s.setFp i x).pru = s.pru := rfl
@[simp] theorem State.setFp_dbc (s : State) (i : Fp) (x : Fpc) : (s.setFp i x).dbc = s.dbc := rfl
@[simp] theorem State.setFp_riu (s : State) (i : Fp) (x : Fpc) : (s.setFp i x).riu = s.riu := rfl
@[simp] theorem State.setFp_sj (s : State) (i : Fp) (x : Fpc) : (s.setFp i x).sj = s.sj := rfl
@[simp] theorem State.setFp_sps (s : State) (i : Fp) (x : Fpc) : (s.setFp i x).sps = s.sps := rfl
@[simp] theorem State.setFp_sus (s : State) (i : Fp) (x : Fpc) : (s.setFp i x).sus = s.sus := rfl
@[simp] theorem State.setFp_meter (s : State) (i : Fp) (x : Fpc) (j : Meter) : (s.setFp i x).meter j = s.meter j := rfl
@[simp] theorem State.setFp_pump (s : State) (i : Fp) (x : Fpc) (j : Pump) : (s.setFp i x).pump j = s.pump j := rfl
@[simp] theorem State.setFp_module (s : State) (i : Fp) (x : Fpc) (j : ModuleId) : (s.setFp i x).module j = s.module j := rfl

@[simp] theorem State.setMeter_pending (s : State) (i : Meter) (x : Channels) : (s.setMeter i x).pending = s.pending := rfl
@[simp] theorem State.setMeter_resetHeld (s : State) (i : Meter) (x : Channels) : (s.setMeter i x).resetHeld = s.resetHeld := rfl
@[simp] theorem State.setMeter_pins (s : State) (i : Meter) (x : Channels) : (s.setMeter i x).pins = s.pins := rfl
@[simp] theorem State.setMeter_clp (s : State) (i : Meter) (x : Channels) : (s.setMeter i x).clp = s.clp := rfl
@[simp] theorem State.setMeter_nu (s : State) (i : Meter) (x : Channels) : (s.setMeter i x).nu = s.nu := rfl
@[simp] theorem State.setMeter_fpc (s : State) (i : Meter) (x : Channels) : (s.setMeter i x).fpc = s.fpc := rfl
@[simp] theorem State.setMeter_psg (s : State) (i : Meter) (x : Channels) : (s.setMeter i x).psg = s.psg := rfl
@[simp] theorem State.setMeter_pru (s : State) (i : Meter) (x : Channels) : (s.setMeter i x).pru = s.pru := rfl
@[simp] theorem State.setMeter_dbc (s : State) (i : Meter) (x : Channels) : (s.setMeter i x).dbc = s.dbc := rfl
@[simp] theorem State.setMeter_riu (s : State) (i : Meter) (x : Channels) : (s.setMeter i x).riu = s.riu := rfl
@[simp] theorem State.setMeter_sj (s : State) (i : Meter) (x : Channels) : (s.setMeter i x).sj = s.sj := rfl
@[simp] theorem State.setMeter_sps (s : State) (i : Meter) (x : Channels) : (s.setMeter i x).sps = s.sps := rfl
@[simp] theorem State.setMeter_sus (s : State) (i : Meter) (x : Channels) : (s.setMeter i x).sus = s.sus := rfl
@[simp] theorem State.setMeter_fp (s : State) (i : Meter) (x : Channels) (j : Fp) : (s.setMeter i x).fp j = s.fp j := rfl
@[simp] theorem State.setMeter_pump (s : State) (i : Meter) (x : Channels) (j : Pump) : (s.setMeter i x).pump j = s.pump j := rfl
@[simp] theorem State.setMeter_module (s : State) (i : Meter) (x : Channels) (j : ModuleId) : (s.setMeter i x).module j = s.module j := rfl
@[simp] theorem State.setMeter_inSale (s : State) (i : Meter) (x : Channels) (j : Fp) : (s.setMeter i x).inSale j = s.inSale j := rfl

@[simp] theorem State.setPump_pending (s : State) (i : Pump) (x : PumpRec) : (s.setPump i x).pending = s.pending := rfl
@[simp] theorem State.setPump_resetHeld (s : State) (i : Pump) (x : PumpRec) : (s.setPump i x).resetHeld = s.resetHeld := rfl
@[simp] theorem State.setPump_pins (s : State) (i : Pump) (x : PumpRec) : (s.setPump i x).pins = s.pins := rfl
@[simp] theorem State.setPump_clp (s : State) (i : Pump) (x : PumpRec) : (s.setPump i x).clp = s.clp := rfl
@[simp] theorem State.setPump_nu (s : State) (i : Pump) (x : PumpRec) : (s.setPump i x).nu = s.nu := rfl
@[simp] theorem State.setPump_miu (s : State) (i : Pump) (x : PumpRec) : (s.setPump i x).miu = s.miu := rfl
@[simp] theorem State.setPump_fpc (s : State) (i : Pump) (x : PumpRec) : (s.setPump i x).fpc = s.fpc := rfl
@[simp] theorem State.setPump_pru (s : State) (i : Pump) (x : PumpRec) : (s.setPump i x).pru = s.pru := rfl
@[simp] theorem State.setPump_dbc (s : State) (i : Pump) (x : PumpRec) : (s.setPump i x).dbc = s.dbc := rfl
@[simp] theorem State.setPump_riu (s : State) (i : Pump) (x : PumpRec) : (s.setPump i x).riu = s.riu := rfl
@[simp] theorem State.setPump_sj (s : State) (i : Pump) (x : PumpRec) : (s.setPump i x).sj = s.sj := rfl
@[simp] theorem State.setPump_sps (s : State) (i : Pump) (x : PumpRec) : (s.setPump i x).sps = s.sps := rfl
@[simp] theorem State.setPump_sus (s : State) (i : Pump) (x : PumpRec) : (s.setPump i x).sus = s.sus := rfl
@[simp] theorem State.setPump_fp (s : State) (i : Pump) (x : PumpRec) (j : Fp) : (s.setPump i x).fp j = s.fp j := rfl
@[simp] theorem State.setPump_meter (s : State) (i : Pump) (x : PumpRec) (j : Meter) : (s.setPump i x).meter j = s.meter j := rfl
@[simp] theorem State.setPump_module (s : State) (i : Pump) (x : PumpRec) (j : ModuleId) : (s.setPump i x).module j = s.module j := rfl
@[simp] theorem State.setPump_inSale (s : State) (i : Pump) (x : PumpRec) (j : Fp) : (s.setPump i x).inSale j = s.inSale j := rfl

@[simp] theorem State.setModule_pending (s : State) (i : ModuleId) (x : Module) : (s.setModule i x).pending = s.pending := rfl
@[simp] theorem State.setModule_resetHeld (s : State) (i : ModuleId) (x : Module) : (s.setModule i x).resetHeld = s.resetHeld := rfl
@[simp] theorem State.setModule_pins (s : State) (i : ModuleId) (x : Module) : (s.setModule i x).pins = s.pins := rfl
@[simp] theorem State.setModule_clp (s : State) (i : ModuleId) (x : Module) : (s.setModule i x).clp = s.clp := rfl
@[simp] theorem State.setModule_nu (s : State) (i : ModuleId) (x : Module) : (s.setModule i x).nu = s.nu := rfl
@[simp] theorem State.setModule_miu (s : State) (i : ModuleId) (x : Module) : (s.setModule i x).miu = s.miu := rfl
@[simp] theorem State.setModule_fpc (s : State) (i : ModuleId) (x : Module) : (s.setModule i x).fpc = s.fpc := rfl
@[simp] theorem State.setModule_psg (s : State) (i : ModuleId) (x : Module) : (s.setModule i x).psg = s.psg := rfl
@[simp] theorem State.setModule_pru (s : State) (i : ModuleId) (x : Module) : (s.setModule i x).pru = s.pru := rfl
@[simp] theorem State.setModule_riu (s : State) (i : ModuleId) (x : Module) : (s.setModule i x).riu = s.riu := rfl
@[simp] theorem State.setModule_sj (s : State) (i : ModuleId) (x : Module) : (s.setModule i x).sj = s.sj := rfl
@[simp] theorem State.setModule_sps (s : State) (i : ModuleId) (x : Module) : (s.setModule i x).sps = s.sps := rfl
@[simp] theorem State.setModule_sus (s : State) (i : ModuleId) (x : Module) : (s.setModule i x).sus = s.sus := rfl
@[simp] theorem State.setModule_fp (s : State) (i : ModuleId) (x : Module) (j : Fp) : (s.setModule i x).fp j = s.fp j := rfl
@[simp] theorem State.setModule_meter (s : State) (i : ModuleId) (x : Module) (j : Meter) : (s.setModule i x).meter j = s.meter j := rfl
@[simp] theorem State.setModule_pump (s : State) (i : ModuleId) (x : Module) (j : Pump) : (s.setModule i x).pump j = s.pump j := rfl
@[simp] theorem State.setModule_inSale (s : State) (i : ModuleId) (x : Module) (j : Fp) : (s.setModule i x).inSale j = s.inSale j := rfl

@[simp] theorem State.setFp_fp_same (s : State) (i : Fp) (x : Fpc) : (s.setFp i x).fp i = x :=
  PerFp.get_set_same _ _ _

@[simp] theorem State.setFp_fp_of_ne (s : State) (i j : Fp) (x : Fpc) (h : j ≠ i) :
    (s.setFp i x).fp j = s.fp j := PerFp.get_set_of_ne _ _ _ _ h

@[simp] theorem State.setMeter_meter_same (s : State) (i : Meter) (x : Channels) : (s.setMeter i x).meter i = x :=
  PerMeter.get_set_same _ _ _

@[simp] theorem State.setMeter_meter_of_ne (s : State) (i j : Meter) (x : Channels) (h : j ≠ i) :
    (s.setMeter i x).meter j = s.meter j := PerMeter.get_set_of_ne _ _ _ _ h

@[simp] theorem State.setPump_pump_same (s : State) (i : Pump) (x : PumpRec) : (s.setPump i x).pump i = x :=
  PerPump.get_set_same _ _ _

@[simp] theorem State.setPump_pump_of_ne (s : State) (i j : Pump) (x : PumpRec) (h : j ≠ i) :
    (s.setPump i x).pump j = s.pump j := PerPump.get_set_of_ne _ _ _ _ h

@[simp] theorem State.setModule_module_same (s : State) (i : ModuleId) (x : Module) : (s.setModule i x).module i = x :=
  PerModule.get_set_same _ _ _

@[simp] theorem State.setModule_module_of_ne (s : State) (i j : ModuleId) (x : Module) (h : j ≠ i) :
    (s.setModule i x).module j = s.module j := PerModule.get_set_of_ne _ _ _ _ h

/-! ### A notice raised changes the notice unit alone -/

@[simp] theorem State.raise_pending (s : State) (k : NoticeKind) : (s.raise k).pending = s.pending := rfl
@[simp] theorem State.raise_resetHeld (s : State) (k : NoticeKind) : (s.raise k).resetHeld = s.resetHeld := rfl
@[simp] theorem State.raise_pins (s : State) (k : NoticeKind) : (s.raise k).pins = s.pins := rfl
@[simp] theorem State.raise_clp (s : State) (k : NoticeKind) : (s.raise k).clp = s.clp := rfl
@[simp] theorem State.raise_miu (s : State) (k : NoticeKind) : (s.raise k).miu = s.miu := rfl
@[simp] theorem State.raise_fpc (s : State) (k : NoticeKind) : (s.raise k).fpc = s.fpc := rfl
@[simp] theorem State.raise_psg (s : State) (k : NoticeKind) : (s.raise k).psg = s.psg := rfl
@[simp] theorem State.raise_pru (s : State) (k : NoticeKind) : (s.raise k).pru = s.pru := rfl
@[simp] theorem State.raise_dbc (s : State) (k : NoticeKind) : (s.raise k).dbc = s.dbc := rfl
@[simp] theorem State.raise_riu (s : State) (k : NoticeKind) : (s.raise k).riu = s.riu := rfl
@[simp] theorem State.raise_sj (s : State) (k : NoticeKind) : (s.raise k).sj = s.sj := rfl
@[simp] theorem State.raise_sps (s : State) (k : NoticeKind) : (s.raise k).sps = s.sps := rfl
@[simp] theorem State.raise_sus (s : State) (k : NoticeKind) : (s.raise k).sus = s.sus := rfl
@[simp] theorem State.raise_fp (s : State) (k : NoticeKind) (j : Fp) : (s.raise k).fp j = s.fp j := rfl
@[simp] theorem State.raise_meter (s : State) (k : NoticeKind) (j : Meter) : (s.raise k).meter j = s.meter j := rfl
@[simp] theorem State.raise_pump (s : State) (k : NoticeKind) (j : Pump) : (s.raise k).pump j = s.pump j := rfl
@[simp] theorem State.raise_module (s : State) (k : NoticeKind) (j : ModuleId) : (s.raise k).module j = s.module j := rfl
@[simp] theorem State.raise_inSale (s : State) (k : NoticeKind) (j : Fp) : (s.raise k).inSale j = s.inSale j := rfl

@[simp] theorem State.raiseFor_pending (s : State) (k : NoticeKind) (f : Fp) : (s.raiseFor k f).pending = s.pending := rfl
@[simp] theorem State.raiseFor_resetHeld (s : State) (k : NoticeKind) (f : Fp) : (s.raiseFor k f).resetHeld = s.resetHeld := rfl
@[simp] theorem State.raiseFor_pins (s : State) (k : NoticeKind) (f : Fp) : (s.raiseFor k f).pins = s.pins := rfl
@[simp] theorem State.raiseFor_clp (s : State) (k : NoticeKind) (f : Fp) : (s.raiseFor k f).clp = s.clp := rfl
@[simp] theorem State.raiseFor_miu (s : State) (k : NoticeKind) (f : Fp) : (s.raiseFor k f).miu = s.miu := rfl
@[simp] theorem State.raiseFor_fpc (s : State) (k : NoticeKind) (f : Fp) : (s.raiseFor k f).fpc = s.fpc := rfl
@[simp] theorem State.raiseFor_psg (s : State) (k : NoticeKind) (f : Fp) : (s.raiseFor k f).psg = s.psg := rfl
@[simp] theorem State.raiseFor_pru (s : State) (k : NoticeKind) (f : Fp) : (s.raiseFor k f).pru = s.pru := rfl
@[simp] theorem State.raiseFor_dbc (s : State) (k : NoticeKind) (f : Fp) : (s.raiseFor k f).dbc = s.dbc := rfl
@[simp] theorem State.raiseFor_riu (s : State) (k : NoticeKind) (f : Fp) : (s.raiseFor k f).riu = s.riu := rfl
@[simp] theorem State.raiseFor_sj (s : State) (k : NoticeKind) (f : Fp) : (s.raiseFor k f).sj = s.sj := rfl
@[simp] theorem State.raiseFor_sps (s : State) (k : NoticeKind) (f : Fp) : (s.raiseFor k f).sps = s.sps := rfl
@[simp] theorem State.raiseFor_sus (s : State) (k : NoticeKind) (f : Fp) : (s.raiseFor k f).sus = s.sus := rfl
@[simp] theorem State.raiseFor_fp (s : State) (k : NoticeKind) (f : Fp) (j : Fp) : (s.raiseFor k f).fp j = s.fp j := rfl
@[simp] theorem State.raiseFor_meter (s : State) (k : NoticeKind) (f : Fp) (j : Meter) : (s.raiseFor k f).meter j = s.meter j := rfl
@[simp] theorem State.raiseFor_pump (s : State) (k : NoticeKind) (f : Fp) (j : Pump) : (s.raiseFor k f).pump j = s.pump j := rfl
@[simp] theorem State.raiseFor_module (s : State) (k : NoticeKind) (f : Fp) (j : ModuleId) : (s.raiseFor k f).module j = s.module j := rfl
@[simp] theorem State.raiseFor_inSale (s : State) (k : NoticeKind) (f : Fp) (j : Fp) : (s.raiseFor k f).inSale j = s.inSale j := rfl

/-! ### Time passing leaves these blocks alone -/

@[simp] theorem State.advance_pending (d : Nat) (s : State) : (State.advance d s).pending = s.pending := rfl
@[simp] theorem State.advance_resetHeld (d : Nat) (s : State) : (State.advance d s).resetHeld = s.resetHeld := rfl
@[simp] theorem State.advance_clp (d : Nat) (s : State) : (State.advance d s).clp = s.clp := rfl
@[simp] theorem State.advance_nu (d : Nat) (s : State) : (State.advance d s).nu = s.nu := rfl
@[simp] theorem State.advance_pru (d : Nat) (s : State) : (State.advance d s).pru = s.pru := rfl
@[simp] theorem State.advance_dbc (d : Nat) (s : State) : (State.advance d s).dbc = s.dbc := rfl
@[simp] theorem State.advance_sj (d : Nat) (s : State) : (State.advance d s).sj = s.sj := rfl
@[simp] theorem State.advance_sus (d : Nat) (s : State) : (State.advance d s).sus = s.sus := rfl

end Sys2Proof.Machine
end

