-- ==== Sys2Proof/Laws/Frames.lean ====
section
/-! SUPPORT. The frame of each named operation: the blocks it leaves alone, in the order of the files that define
the operations. Later proofs cite these instead of unfolding an operation. -/

namespace Sys2Proof.Machine

@[simp] theorem State.setField_frame (s : State) (m : ModuleId) (p : FieldPos) (x : Field) :
    (s.setField m p x).pending = s.pending ∧ (s.setField m p x).resetHeld = s.resetHeld ∧
    (s.setField m p x).pins = s.pins ∧ (s.setField m p x).clp = s.clp ∧ (s.setField m p x).nu = s.nu ∧
    (s.setField m p x).miu = s.miu ∧ (s.setField m p x).fpc = s.fpc ∧ (s.setField m p x).psg = s.psg ∧
    (s.setField m p x).pru = s.pru ∧ (s.setField m p x).riu = s.riu ∧ (s.setField m p x).sj = s.sj ∧
    (s.setField m p x).sps = s.sps ∧ (s.setField m p x).sus = s.sus := by
  simp [State.setField]

@[simp] theorem State.clearPanel_frame (s : State) (m : ModuleId) :
    (s.clearPanel m).pending = s.pending ∧ (s.clearPanel m).resetHeld = s.resetHeld ∧
    (s.clearPanel m).pins = s.pins ∧ (s.clearPanel m).clp = s.clp ∧ (s.clearPanel m).nu = s.nu ∧
    (s.clearPanel m).miu = s.miu ∧ (s.clearPanel m).fpc = s.fpc ∧ (s.clearPanel m).psg = s.psg ∧
    (s.clearPanel m).dbc = s.dbc ∧ (s.clearPanel m).riu = s.riu ∧ (s.clearPanel m).sj = s.sj ∧
    (s.clearPanel m).sps = s.sps ∧ (s.clearPanel m).sus = s.sus := by
  simp only [State.clearPanel]
  (repeat' split) <;> simp

@[simp] theorem State.markField_frame (s : State) (m : ModuleId) (p : FieldPos) :
    (s.markField m p).pending = s.pending ∧ (s.markField m p).resetHeld = s.resetHeld ∧
    (s.markField m p).pins = s.pins ∧ (s.markField m p).clp = s.clp ∧ (s.markField m p).nu = s.nu ∧
    (s.markField m p).miu = s.miu ∧ (s.markField m p).fpc = s.fpc ∧ (s.markField m p).psg = s.psg ∧
    (s.markField m p).riu = s.riu ∧ (s.markField m p).sj = s.sj ∧ (s.markField m p).sps = s.sps ∧
    (s.markField m p).sus = s.sus := by
  simp [State.markField]

@[simp] theorem State.markModule_frame (s : State) (m : ModuleId) :
    (s.markModule m).pending = s.pending ∧ (s.markModule m).resetHeld = s.resetHeld ∧
    (s.markModule m).pins = s.pins ∧ (s.markModule m).clp = s.clp ∧ (s.markModule m).nu = s.nu ∧
    (s.markModule m).miu = s.miu ∧ (s.markModule m).fpc = s.fpc ∧ (s.markModule m).psg = s.psg ∧
    (s.markModule m).riu = s.riu ∧ (s.markModule m).sj = s.sj ∧ (s.markModule m).sps = s.sps ∧
    (s.markModule m).sus = s.sus := by
  simp [State.markModule]

@[simp] theorem State.markAll_frame (s : State) :
    s.markAll.pending = s.pending ∧ s.markAll.resetHeld = s.resetHeld ∧ s.markAll.pins = s.pins ∧
    s.markAll.clp = s.clp ∧ s.markAll.nu = s.nu ∧ s.markAll.miu = s.miu ∧ s.markAll.fpc = s.fpc ∧
    s.markAll.psg = s.psg ∧ s.markAll.riu = s.riu ∧ s.markAll.sj = s.sj ∧ s.markAll.sps = s.sps ∧
    s.markAll.sus = s.sus := by
  simp [State.markAll]

@[simp] theorem State.reconsider_frame (s : State) (m : ModuleId) (p : FieldPos) :
    (s.reconsider m p).pending = s.pending ∧ (s.reconsider m p).resetHeld = s.resetHeld ∧
    (s.reconsider m p).pins = s.pins ∧ (s.reconsider m p).clp = s.clp ∧ (s.reconsider m p).nu = s.nu ∧
    (s.reconsider m p).miu = s.miu ∧ (s.reconsider m p).fpc = s.fpc ∧ (s.reconsider m p).psg = s.psg ∧
    (s.reconsider m p).riu = s.riu ∧ (s.reconsider m p).sj = s.sj ∧ (s.reconsider m p).sps = s.sps ∧
    (s.reconsider m p).sus = s.sus := by
  simp only [State.reconsider]
  (repeat' split) <;> simp

@[simp] theorem State.setWanted_frame (s : State) (m : ModuleId) (p : FieldPos) (w : Wanted) :
    (s.setWanted m p w).pending = s.pending ∧ (s.setWanted m p w).resetHeld = s.resetHeld ∧
    (s.setWanted m p w).pins = s.pins ∧ (s.setWanted m p w).clp = s.clp ∧ (s.setWanted m p w).nu = s.nu ∧
    (s.setWanted m p w).miu = s.miu ∧ (s.setWanted m p w).fpc = s.fpc ∧ (s.setWanted m p w).psg = s.psg ∧
    (s.setWanted m p w).riu = s.riu ∧ (s.setWanted m p w).sj = s.sj ∧ (s.setWanted m p w).sps = s.sps ∧
    (s.setWanted m p w).sus = s.sus := by
  simp [State.setWanted]

@[simp] theorem State.setMain_frame (s : State) (f : Fp) (money volumeCl : Nat) (price : Wanted) :
    (s.setMain f money volumeCl price).pending = s.pending ∧
    (s.setMain f money volumeCl price).resetHeld = s.resetHeld ∧ (s.setMain f money volumeCl price).pins = s.pins ∧
    (s.setMain f money volumeCl price).clp = s.clp ∧ (s.setMain f money volumeCl price).nu = s.nu ∧
    (s.setMain f money volumeCl price).miu = s.miu ∧ (s.setMain f money volumeCl price).fpc = s.fpc ∧
    (s.setMain f money volumeCl price).psg = s.psg ∧ (s.setMain f money volumeCl price).riu = s.riu ∧
    (s.setMain f money volumeCl price).sj = s.sj ∧ (s.setMain f money volumeCl price).sps = s.sps ∧
    (s.setMain f money volumeCl price).sus = s.sus := by
  simp [State.setMain]

@[simp] theorem State.setNoSale_frame (s : State) (f : Fp) :
    (s.setNoSale f).pending = s.pending ∧ (s.setNoSale f).resetHeld = s.resetHeld ∧ (s.setNoSale f).pins = s.pins ∧
    (s.setNoSale f).clp = s.clp ∧ (s.setNoSale f).nu = s.nu ∧ (s.setNoSale f).miu = s.miu ∧
    (s.setNoSale f).fpc = s.fpc ∧ (s.setNoSale f).psg = s.psg ∧ (s.setNoSale f).riu = s.riu ∧
    (s.setNoSale f).sj = s.sj ∧ (s.setNoSale f).sps = s.sps ∧ (s.setNoSale f).sus = s.sus := by
  simp [State.setNoSale]

@[simp] theorem State.startTest_frame (s : State) (m : ModuleId) :
    (s.startTest m).pending = s.pending ∧ (s.startTest m).resetHeld = s.resetHeld ∧ (s.startTest m).pins = s.pins ∧
    (s.startTest m).clp = s.clp ∧ (s.startTest m).nu = s.nu ∧ (s.startTest m).miu = s.miu ∧
    (s.startTest m).fpc = s.fpc ∧ (s.startTest m).psg = s.psg ∧ (s.startTest m).riu = s.riu ∧
    (s.startTest m).sj = s.sj ∧ (s.startTest m).sps = s.sps ∧ (s.startTest m).sus = s.sus := by
  simp only [State.startTest]
  (repeat' split) <;> simp

@[simp] theorem State.requestTest_frame (s : State) (m : ModuleId) :
    (s.requestTest m).pending = s.pending ∧ (s.requestTest m).resetHeld = s.resetHeld ∧
    (s.requestTest m).pins = s.pins ∧ (s.requestTest m).clp = s.clp ∧ (s.requestTest m).nu = s.nu ∧
    (s.requestTest m).miu = s.miu ∧ (s.requestTest m).fpc = s.fpc ∧ (s.requestTest m).psg = s.psg ∧
    (s.requestTest m).riu = s.riu ∧ (s.requestTest m).sj = s.sj ∧ (s.requestTest m).sps = s.sps ∧
    (s.requestTest m).sus = s.sus := by
  simp only [State.requestTest]
  (repeat' split) <;> simp

@[simp] theorem State.startAttempt_frame (s : State) :
    s.startAttempt.pending = s.pending ∧ s.startAttempt.resetHeld = s.resetHeld ∧ s.startAttempt.pins = s.pins ∧
    s.startAttempt.clp = s.clp ∧ s.startAttempt.nu = s.nu ∧ s.startAttempt.miu = s.miu ∧
    s.startAttempt.fpc = s.fpc ∧ s.startAttempt.psg = s.psg ∧ s.startAttempt.pru = s.pru ∧
    s.startAttempt.riu = s.riu ∧ s.startAttempt.sj = s.sj ∧ s.startAttempt.sps = s.sps ∧
    s.startAttempt.sus = s.sus := by
  simp only [State.startAttempt]
  (repeat' split) <;> simp

@[simp] theorem State.startHeldTests_frame (s : State) :
    s.startHeldTests.pending = s.pending ∧ s.startHeldTests.resetHeld = s.resetHeld ∧
    s.startHeldTests.pins = s.pins ∧ s.startHeldTests.clp = s.clp ∧ s.startHeldTests.nu = s.nu ∧
    s.startHeldTests.miu = s.miu ∧ s.startHeldTests.fpc = s.fpc ∧ s.startHeldTests.psg = s.psg ∧
    s.startHeldTests.riu = s.riu ∧ s.startHeldTests.sj = s.sj ∧ s.startHeldTests.sps = s.sps ∧
    s.startHeldTests.sus = s.sus := by
  simp only [State.startHeldTests, ModuleId.all, List.foldl]
  (repeat' split) <;> simp

@[simp] theorem State.beginWrite_frame (s : State) (m : ModuleId) (p : FieldPos) (try2 : Bool) :
    (s.beginWrite m p try2).pending = s.pending ∧ (s.beginWrite m p try2).resetHeld = s.resetHeld ∧
    (s.beginWrite m p try2).pins = s.pins ∧ (s.beginWrite m p try2).clp = s.clp ∧
    (s.beginWrite m p try2).nu = s.nu ∧ (s.beginWrite m p try2).miu = s.miu ∧ (s.beginWrite m p try2).fpc = s.fpc ∧
    (s.beginWrite m p try2).psg = s.psg ∧ (s.beginWrite m p try2).pru = s.pru ∧
    (s.beginWrite m p try2).riu = s.riu ∧ (s.beginWrite m p try2).sj = s.sj ∧ (s.beginWrite m p try2).sps = s.sps ∧
    (s.beginWrite m p try2).sus = s.sus := by
  simp [State.beginWrite]

@[simp] theorem State.orderBlanking_frame (s : State) :
    s.orderBlanking.pending = s.pending ∧ s.orderBlanking.resetHeld = s.resetHeld ∧ s.orderBlanking.pins = s.pins ∧
    s.orderBlanking.clp = s.clp ∧ s.orderBlanking.nu = s.nu ∧ s.orderBlanking.miu = s.miu ∧
    s.orderBlanking.fpc = s.fpc ∧ s.orderBlanking.psg = s.psg ∧ s.orderBlanking.riu = s.riu ∧
    s.orderBlanking.sj = s.sj ∧ s.orderBlanking.sps = s.sps ∧ s.orderBlanking.sus = s.sus := by
  simp [State.orderBlanking]

@[simp] theorem State.displayOff_frame (s : State) :
    s.displayOff.pending = s.pending ∧ s.displayOff.resetHeld = s.resetHeld ∧ s.displayOff.pins = s.pins ∧
    s.displayOff.clp = s.clp ∧ s.displayOff.nu = s.nu ∧ s.displayOff.miu = s.miu ∧ s.displayOff.fpc = s.fpc ∧
    s.displayOff.psg = s.psg ∧ s.displayOff.riu = s.riu ∧ s.displayOff.sj = s.sj ∧ s.displayOff.sus = s.sus := by
  simp [State.displayOff]

@[simp] theorem State.putPanelWanted_frame (s : State) (f : Fp) :
    (s.putPanelWanted f).pending = s.pending ∧ (s.putPanelWanted f).resetHeld = s.resetHeld ∧
    (s.putPanelWanted f).pins = s.pins ∧ (s.putPanelWanted f).clp = s.clp ∧ (s.putPanelWanted f).nu = s.nu ∧
    (s.putPanelWanted f).miu = s.miu ∧ (s.putPanelWanted f).fpc = s.fpc ∧ (s.putPanelWanted f).psg = s.psg ∧
    (s.putPanelWanted f).pru = s.pru ∧ (s.putPanelWanted f).riu = s.riu ∧ (s.putPanelWanted f).sj = s.sj ∧
    (s.putPanelWanted f).sps = s.sps ∧ (s.putPanelWanted f).sus = s.sus := by
  simp [State.putPanelWanted, Nozzle.all]

@[simp] theorem State.refreshPanel_frame (s : State) (f : Fp) :
    (s.refreshPanel f).pending = s.pending ∧ (s.refreshPanel f).resetHeld = s.resetHeld ∧
    (s.refreshPanel f).pins = s.pins ∧ (s.refreshPanel f).clp = s.clp ∧ (s.refreshPanel f).nu = s.nu ∧
    (s.refreshPanel f).miu = s.miu ∧ (s.refreshPanel f).fpc = s.fpc ∧ (s.refreshPanel f).psg = s.psg ∧
    (s.refreshPanel f).riu = s.riu ∧ (s.refreshPanel f).sj = s.sj ∧ (s.refreshPanel f).sps = s.sps ∧
    (s.refreshPanel f).sus = s.sus := by
  simp [State.refreshPanel]

@[simp] theorem State.lowTest_frame (s : State) :
    s.lowTest.pending = s.pending ∧ s.lowTest.resetHeld = s.resetHeld ∧ s.lowTest.pins = s.pins ∧
    s.lowTest.clp = s.clp ∧ s.lowTest.miu = s.miu ∧ s.lowTest.fpc = s.fpc ∧ s.lowTest.psg = s.psg ∧
    s.lowTest.pru = s.pru ∧ s.lowTest.dbc = s.dbc ∧ s.lowTest.riu = s.riu ∧ s.lowTest.sps = s.sps ∧
    s.lowTest.sus = s.sus := by
  simp only [State.lowTest]
  (repeat' split) <;> simp

@[simp] theorem State.rearmLow_frame (s : State) :
    s.rearmLow.pending = s.pending ∧ s.rearmLow.resetHeld = s.resetHeld ∧ s.rearmLow.pins = s.pins ∧
    s.rearmLow.clp = s.clp ∧ s.rearmLow.nu = s.nu ∧ s.rearmLow.miu = s.miu ∧ s.rearmLow.fpc = s.fpc ∧
    s.rearmLow.psg = s.psg ∧ s.rearmLow.pru = s.pru ∧ s.rearmLow.dbc = s.dbc ∧ s.rearmLow.riu = s.riu ∧
    s.rearmLow.sps = s.sps ∧ s.rearmLow.sus = s.sus := by
  simp only [State.rearmLow]
  (repeat' split) <;> simp

@[simp] theorem State.changeEntry_frame (s : State) (i : Fin 32) (f : Entry → Entry) :
    (s.changeEntry i f).pending = s.pending ∧ (s.changeEntry i f).resetHeld = s.resetHeld ∧
    (s.changeEntry i f).pins = s.pins ∧ (s.changeEntry i f).clp = s.clp ∧ (s.changeEntry i f).nu = s.nu ∧
    (s.changeEntry i f).miu = s.miu ∧ (s.changeEntry i f).fpc = s.fpc ∧ (s.changeEntry i f).psg = s.psg ∧
    (s.changeEntry i f).pru = s.pru ∧ (s.changeEntry i f).dbc = s.dbc ∧ (s.changeEntry i f).riu = s.riu ∧
    (s.changeEntry i f).sps = s.sps ∧ (s.changeEntry i f).sus = s.sus := by
  simp [State.changeEntry]

@[simp] theorem State.freeSlot_frame (s : State) (i : Fin 32) :
    (s.freeSlot i).pending = s.pending ∧ (s.freeSlot i).resetHeld = s.resetHeld ∧ (s.freeSlot i).pins = s.pins ∧
    (s.freeSlot i).clp = s.clp ∧ (s.freeSlot i).nu = s.nu ∧ (s.freeSlot i).miu = s.miu ∧
    (s.freeSlot i).fpc = s.fpc ∧ (s.freeSlot i).psg = s.psg ∧ (s.freeSlot i).pru = s.pru ∧
    (s.freeSlot i).dbc = s.dbc ∧ (s.freeSlot i).riu = s.riu ∧ (s.freeSlot i).sps = s.sps ∧
    (s.freeSlot i).sus = s.sus := by
  simp [State.freeSlot]

@[simp] theorem State.activateEntry_frame (s : State) (i : Fin 32) (r : Sale) (generation : Nat) :
    (s.activateEntry i r generation).pending = s.pending ∧
    (s.activateEntry i r generation).resetHeld = s.resetHeld ∧ (s.activateEntry i r generation).pins = s.pins ∧
    (s.activateEntry i r generation).clp = s.clp ∧ (s.activateEntry i r generation).nu = s.nu ∧
    (s.activateEntry i r generation).miu = s.miu ∧ (s.activateEntry i r generation).fpc = s.fpc ∧
    (s.activateEntry i r generation).psg = s.psg ∧ (s.activateEntry i r generation).pru = s.pru ∧
    (s.activateEntry i r generation).dbc = s.dbc ∧ (s.activateEntry i r generation).riu = s.riu ∧
    (s.activateEntry i r generation).sps = s.sps ∧ (s.activateEntry i r generation).sus = s.sus := by
  simp [State.activateEntry]

@[simp] theorem State.writeLive_frame (s : State) (i : Fin 32) (r : Sale) :
    (s.writeLive i r).pending = s.pending ∧ (s.writeLive i r).resetHeld = s.resetHeld ∧
    (s.writeLive i r).pins = s.pins ∧ (s.writeLive i r).clp = s.clp ∧ (s.writeLive i r).nu = s.nu ∧
    (s.writeLive i r).miu = s.miu ∧ (s.writeLive i r).fpc = s.fpc ∧ (s.writeLive i r).psg = s.psg ∧
    (s.writeLive i r).pru = s.pru ∧ (s.writeLive i r).dbc = s.dbc ∧ (s.writeLive i r).riu = s.riu ∧
    (s.writeLive i r).sps = s.sps ∧ (s.writeLive i r).sus = s.sus := by
  simp [State.writeLive]

@[simp] theorem State.endEntry_frame (s : State) (i : Fin 32) (r : Sale) (reason : EndReason) :
    (s.endEntry i r reason).pending = s.pending ∧ (s.endEntry i r reason).resetHeld = s.resetHeld ∧
    (s.endEntry i r reason).pins = s.pins ∧ (s.endEntry i r reason).clp = s.clp ∧
    (s.endEntry i r reason).nu = s.nu ∧ (s.endEntry i r reason).miu = s.miu ∧ (s.endEntry i r reason).fpc = s.fpc ∧
    (s.endEntry i r reason).psg = s.psg ∧ (s.endEntry i r reason).pru = s.pru ∧
    (s.endEntry i r reason).dbc = s.dbc ∧ (s.endEntry i r reason).riu = s.riu ∧
    (s.endEntry i r reason).sps = s.sps ∧ (s.endEntry i r reason).sus = s.sus := by
  simp [State.endEntry]

@[simp] theorem State.updateTotals_frame (s : State) (f : Totals → Totals) :
    (s.updateTotals f).pending = s.pending ∧ (s.updateTotals f).resetHeld = s.resetHeld ∧
    (s.updateTotals f).pins = s.pins ∧ (s.updateTotals f).clp = s.clp ∧ (s.updateTotals f).nu = s.nu ∧
    (s.updateTotals f).miu = s.miu ∧ (s.updateTotals f).fpc = s.fpc ∧ (s.updateTotals f).psg = s.psg ∧
    (s.updateTotals f).pru = s.pru ∧ (s.updateTotals f).dbc = s.dbc ∧ (s.updateTotals f).riu = s.riu ∧
    (s.updateTotals f).sps = s.sps ∧ (s.updateTotals f).sus = s.sus := by
  simp [State.updateTotals]

@[simp] theorem State.recomputeCheck_frame (s : State) :
    s.recomputeCheck.pending = s.pending ∧ s.recomputeCheck.resetHeld = s.resetHeld ∧
    s.recomputeCheck.pins = s.pins ∧ s.recomputeCheck.clp = s.clp ∧ s.recomputeCheck.nu = s.nu ∧
    s.recomputeCheck.miu = s.miu ∧ s.recomputeCheck.fpc = s.fpc ∧ s.recomputeCheck.psg = s.psg ∧
    s.recomputeCheck.pru = s.pru ∧ s.recomputeCheck.dbc = s.dbc ∧ s.recomputeCheck.riu = s.riu ∧
    s.recomputeCheck.sps = s.sps ∧ s.recomputeCheck.sus = s.sus := by
  simp [State.recomputeCheck]

@[simp] theorem State.settleEntry_frame (s : State) (i : Fin 32) (by_ : SettledBy) :
    (s.settleEntry i by_).pending = s.pending ∧ (s.settleEntry i by_).resetHeld = s.resetHeld ∧
    (s.settleEntry i by_).pins = s.pins ∧ (s.settleEntry i by_).clp = s.clp ∧ (s.settleEntry i by_).nu = s.nu ∧
    (s.settleEntry i by_).miu = s.miu ∧ (s.settleEntry i by_).fpc = s.fpc ∧ (s.settleEntry i by_).psg = s.psg ∧
    (s.settleEntry i by_).pru = s.pru ∧ (s.settleEntry i by_).dbc = s.dbc ∧ (s.settleEntry i by_).riu = s.riu ∧
    (s.settleEntry i by_).sps = s.sps ∧ (s.settleEntry i by_).sus = s.sus := by
  simp [State.settleEntry]

@[simp] theorem State.settleFound_frame (s : State) (i : Fin 32) (e : Entry) (by_ : SettledBy) :
    (s.settleFound i e by_).2.pending = s.pending ∧ (s.settleFound i e by_).2.resetHeld = s.resetHeld ∧
    (s.settleFound i e by_).2.pins = s.pins ∧ (s.settleFound i e by_).2.clp = s.clp ∧
    (s.settleFound i e by_).2.nu = s.nu ∧ (s.settleFound i e by_).2.miu = s.miu ∧
    (s.settleFound i e by_).2.fpc = s.fpc ∧ (s.settleFound i e by_).2.psg = s.psg ∧
    (s.settleFound i e by_).2.pru = s.pru ∧ (s.settleFound i e by_).2.dbc = s.dbc ∧
    (s.settleFound i e by_).2.riu = s.riu ∧ (s.settleFound i e by_).2.sps = s.sps ∧
    (s.settleFound i e by_).2.sus = s.sus := by
  simp only [State.settleFound]
  (repeat' split) <;> simp

@[simp] theorem State.settleBy_frame (s : State) (side : Side) (f : Option Fp) (seq : Nat) (token : Token) :
    (s.settleBy side f seq token).2.pending = s.pending ∧ (s.settleBy side f seq token).2.resetHeld = s.resetHeld ∧
    (s.settleBy side f seq token).2.pins = s.pins ∧ (s.settleBy side f seq token).2.clp = s.clp ∧
    (s.settleBy side f seq token).2.nu = s.nu ∧ (s.settleBy side f seq token).2.miu = s.miu ∧
    (s.settleBy side f seq token).2.fpc = s.fpc ∧ (s.settleBy side f seq token).2.psg = s.psg ∧
    (s.settleBy side f seq token).2.pru = s.pru ∧ (s.settleBy side f seq token).2.dbc = s.dbc ∧
    (s.settleBy side f seq token).2.riu = s.riu ∧ (s.settleBy side f seq token).2.sps = s.sps ∧
    (s.settleBy side f seq token).2.sus = s.sus := by
  simp only [State.settleBy]
  (repeat' split) <;> simp

@[simp] theorem State.takeOver_frame (s : State) (seq : Nat) :
    (s.takeOver seq).2.pending = s.pending ∧ (s.takeOver seq).2.resetHeld = s.resetHeld ∧
    (s.takeOver seq).2.pins = s.pins ∧ (s.takeOver seq).2.clp = s.clp ∧ (s.takeOver seq).2.nu = s.nu ∧
    (s.takeOver seq).2.miu = s.miu ∧ (s.takeOver seq).2.fpc = s.fpc ∧ (s.takeOver seq).2.psg = s.psg ∧
    (s.takeOver seq).2.pru = s.pru ∧ (s.takeOver seq).2.dbc = s.dbc ∧ (s.takeOver seq).2.riu = s.riu ∧
    (s.takeOver seq).2.sps = s.sps ∧ (s.takeOver seq).2.sus = s.sus := by
  simp only [State.takeOver]
  (repeat' split) <;> simp

@[simp] theorem State.setCandidate_frame (s : State) (f : Fp) (c : Option EntryRef) :
    (s.setCandidate f c).pending = s.pending ∧ (s.setCandidate f c).resetHeld = s.resetHeld ∧
    (s.setCandidate f c).pins = s.pins ∧ (s.setCandidate f c).clp = s.clp ∧ (s.setCandidate f c).nu = s.nu ∧
    (s.setCandidate f c).miu = s.miu ∧ (s.setCandidate f c).fpc = s.fpc ∧ (s.setCandidate f c).psg = s.psg ∧
    (s.setCandidate f c).pru = s.pru ∧ (s.setCandidate f c).dbc = s.dbc ∧ (s.setCandidate f c).riu = s.riu ∧
    (s.setCandidate f c).sps = s.sps ∧ (s.setCandidate f c).sus = s.sus := by
  simp [State.setCandidate]

@[simp] theorem State.clearCandidates_frame (s : State) :
    s.clearCandidates.pending = s.pending ∧ s.clearCandidates.resetHeld = s.resetHeld ∧
    s.clearCandidates.pins = s.pins ∧ s.clearCandidates.clp = s.clp ∧ s.clearCandidates.nu = s.nu ∧
    s.clearCandidates.miu = s.miu ∧ s.clearCandidates.fpc = s.fpc ∧ s.clearCandidates.psg = s.psg ∧
    s.clearCandidates.pru = s.pru ∧ s.clearCandidates.dbc = s.dbc ∧ s.clearCandidates.riu = s.riu ∧
    s.clearCandidates.sps = s.sps ∧ s.clearCandidates.sus = s.sus := by
  simp [State.clearCandidates]

@[simp] theorem State.addHoldShown_frame (s : State) (f : Fp) :
    (s.addHoldShown f).pending = s.pending ∧ (s.addHoldShown f).resetHeld = s.resetHeld ∧
    (s.addHoldShown f).pins = s.pins ∧ (s.addHoldShown f).clp = s.clp ∧ (s.addHoldShown f).nu = s.nu ∧
    (s.addHoldShown f).miu = s.miu ∧ (s.addHoldShown f).fpc = s.fpc ∧ (s.addHoldShown f).psg = s.psg ∧
    (s.addHoldShown f).pru = s.pru ∧ (s.addHoldShown f).dbc = s.dbc ∧ (s.addHoldShown f).riu = s.riu ∧
    (s.addHoldShown f).sps = s.sps ∧ (s.addHoldShown f).sus = s.sus := by
  simp only [State.addHoldShown]
  (repeat' split) <;> simp

@[simp] theorem State.totalsCheck_frame (s : State) :
    s.totalsCheck.pending = s.pending ∧ s.totalsCheck.resetHeld = s.resetHeld ∧ s.totalsCheck.pins = s.pins ∧
    s.totalsCheck.clp = s.clp ∧ s.totalsCheck.miu = s.miu ∧ s.totalsCheck.fpc = s.fpc ∧ s.totalsCheck.psg = s.psg ∧
    s.totalsCheck.pru = s.pru ∧ s.totalsCheck.dbc = s.dbc ∧ s.totalsCheck.riu = s.riu ∧ s.totalsCheck.sps = s.sps ∧
    s.totalsCheck.sus = s.sus := by
  simp only [State.totalsCheck]
  (repeat' split) <;> simp

@[simp] theorem State.recoverSlot_frame (s : State) (i : Fin 32) :
    (s.recoverSlot i).pending = s.pending ∧ (s.recoverSlot i).resetHeld = s.resetHeld ∧
    (s.recoverSlot i).pins = s.pins ∧ (s.recoverSlot i).clp = s.clp ∧ (s.recoverSlot i).nu = s.nu ∧
    (s.recoverSlot i).miu = s.miu ∧ (s.recoverSlot i).fpc = s.fpc ∧ (s.recoverSlot i).psg = s.psg ∧
    (s.recoverSlot i).pru = s.pru ∧ (s.recoverSlot i).dbc = s.dbc ∧ (s.recoverSlot i).riu = s.riu ∧
    (s.recoverSlot i).sus = s.sus := by
  simp only [State.recoverSlot]
  (repeat' split) <;> simp

@[simp] theorem State.nameHold_frame (s : State) (f : Fp) :
    (s.nameHold f).pending = s.pending ∧ (s.nameHold f).resetHeld = s.resetHeld ∧ (s.nameHold f).pins = s.pins ∧
    (s.nameHold f).clp = s.clp ∧ (s.nameHold f).nu = s.nu ∧ (s.nameHold f).miu = s.miu ∧
    (s.nameHold f).fpc = s.fpc ∧ (s.nameHold f).psg = s.psg ∧ (s.nameHold f).pru = s.pru ∧
    (s.nameHold f).dbc = s.dbc ∧ (s.nameHold f).riu = s.riu ∧ (s.nameHold f).sps = s.sps ∧
    (s.nameHold f).sus = s.sus := by
  simp only [State.nameHold]
  (repeat' split) <;> simp

@[simp] theorem State.recoverJournal_frame (s : State) :
    s.recoverJournal.pending = s.pending ∧ s.recoverJournal.resetHeld = s.resetHeld ∧
    s.recoverJournal.pins = s.pins ∧ s.recoverJournal.clp = s.clp ∧ s.recoverJournal.nu = s.nu ∧
    s.recoverJournal.miu = s.miu ∧ s.recoverJournal.fpc = s.fpc ∧ s.recoverJournal.psg = s.psg ∧
    s.recoverJournal.pru = s.pru ∧ s.recoverJournal.dbc = s.dbc ∧ s.recoverJournal.riu = s.riu ∧
    s.recoverJournal.sus = s.sus := by
  have h : ∀ (l : List (Fin 32)) (t : State),
      (l.foldl State.recoverSlot t).pending = t.pending ∧ (l.foldl State.recoverSlot t).resetHeld = t.resetHeld ∧
      (l.foldl State.recoverSlot t).pins = t.pins ∧ (l.foldl State.recoverSlot t).clp = t.clp ∧
      (l.foldl State.recoverSlot t).nu = t.nu ∧ (l.foldl State.recoverSlot t).miu = t.miu ∧
      (l.foldl State.recoverSlot t).fpc = t.fpc ∧ (l.foldl State.recoverSlot t).psg = t.psg ∧
      (l.foldl State.recoverSlot t).pru = t.pru ∧ (l.foldl State.recoverSlot t).dbc = t.dbc ∧
      (l.foldl State.recoverSlot t).riu = t.riu ∧ (l.foldl State.recoverSlot t).sus = t.sus := by
    intro l
    induction l with
    | nil => intro t; simp
    | cons i l ih => intro t; simp [ih]
  simp [State.recoverJournal, h]

@[simp] theorem State.askWrite_frame (s : State) :
    s.askWrite.pending = s.pending ∧ s.askWrite.resetHeld = s.resetHeld ∧ s.askWrite.pins = s.pins ∧
    s.askWrite.clp = s.clp ∧ s.askWrite.nu = s.nu ∧ s.askWrite.miu = s.miu ∧ s.askWrite.fpc = s.fpc ∧
    s.askWrite.psg = s.psg ∧ s.askWrite.pru = s.pru ∧ s.askWrite.dbc = s.dbc ∧ s.askWrite.riu = s.riu ∧
    s.askWrite.sj = s.sj ∧ s.askWrite.sps = s.sps := by
  simp only [State.askWrite]
  (repeat' split) <;> simp

@[simp] theorem State.askWriteUnlessLost_frame (s : State) :
    s.askWriteUnlessLost.pending = s.pending ∧ s.askWriteUnlessLost.resetHeld = s.resetHeld ∧
    s.askWriteUnlessLost.pins = s.pins ∧ s.askWriteUnlessLost.clp = s.clp ∧ s.askWriteUnlessLost.nu = s.nu ∧
    s.askWriteUnlessLost.miu = s.miu ∧ s.askWriteUnlessLost.fpc = s.fpc ∧ s.askWriteUnlessLost.psg = s.psg ∧
    s.askWriteUnlessLost.pru = s.pru ∧ s.askWriteUnlessLost.dbc = s.dbc ∧ s.askWriteUnlessLost.riu = s.riu ∧
    s.askWriteUnlessLost.sj = s.sj ∧ s.askWriteUnlessLost.sps = s.sps := by
  simp only [State.askWriteUnlessLost]
  (repeat' split) <;> simp

@[simp] theorem State.completeWrite_frame (s : State) :
    s.completeWrite.pending = s.pending ∧ s.completeWrite.resetHeld = s.resetHeld ∧ s.completeWrite.pins = s.pins ∧
    s.completeWrite.clp = s.clp ∧ s.completeWrite.nu = s.nu ∧ s.completeWrite.miu = s.miu ∧
    s.completeWrite.fpc = s.fpc ∧ s.completeWrite.psg = s.psg ∧ s.completeWrite.pru = s.pru ∧
    s.completeWrite.dbc = s.dbc ∧ s.completeWrite.riu = s.riu ∧ s.completeWrite.sj = s.sj ∧
    s.completeWrite.sps = s.sps := by
  simp only [State.completeWrite]
  (repeat' split) <;> simp

@[simp] theorem State.adopt_frame (s : State) (f : Fp) :
    (s.adopt f).pending = s.pending ∧ (s.adopt f).resetHeld = s.resetHeld ∧ (s.adopt f).pins = s.pins ∧
    (s.adopt f).clp = s.clp ∧ (s.adopt f).nu = s.nu ∧ (s.adopt f).miu = s.miu ∧ (s.adopt f).psg = s.psg ∧
    (s.adopt f).riu = s.riu ∧ (s.adopt f).sj = s.sj ∧ (s.adopt f).sps = s.sps ∧ (s.adopt f).sus = s.sus := by
  simp [State.adopt]

@[simp] theorem State.bringUp_frame (s : State) (f : Fp) :
    (s.bringUp f).pending = s.pending ∧ (s.bringUp f).resetHeld = s.resetHeld ∧ (s.bringUp f).pins = s.pins ∧
    (s.bringUp f).clp = s.clp ∧ (s.bringUp f).nu = s.nu ∧ (s.bringUp f).miu = s.miu ∧ (s.bringUp f).psg = s.psg ∧
    (s.bringUp f).riu = s.riu ∧ (s.bringUp f).sj = s.sj ∧ (s.bringUp f).sps = s.sps ∧
    (s.bringUp f).sus = s.sus := by
  simp only [State.bringUp]
  (repeat' split) <;> simp

@[simp] theorem State.takeGeneration_frame (s : State) (f : Fp) :
    (s.takeGeneration f).pending = s.pending ∧ (s.takeGeneration f).resetHeld = s.resetHeld ∧
    (s.takeGeneration f).pins = s.pins ∧ (s.takeGeneration f).clp = s.clp ∧ (s.takeGeneration f).nu = s.nu ∧
    (s.takeGeneration f).miu = s.miu ∧ (s.takeGeneration f).psg = s.psg ∧ (s.takeGeneration f).riu = s.riu ∧
    (s.takeGeneration f).sj = s.sj ∧ (s.takeGeneration f).sps = s.sps ∧ (s.takeGeneration f).sus = s.sus := by
  simp only [State.takeGeneration]
  (repeat' split) <;> simp

@[simp] theorem State.adoptIfDue_frame (s : State) (f : Fp) :
    (s.adoptIfDue f).pending = s.pending ∧ (s.adoptIfDue f).resetHeld = s.resetHeld ∧
    (s.adoptIfDue f).pins = s.pins ∧ (s.adoptIfDue f).clp = s.clp ∧ (s.adoptIfDue f).nu = s.nu ∧
    (s.adoptIfDue f).miu = s.miu ∧ (s.adoptIfDue f).psg = s.psg ∧ (s.adoptIfDue f).riu = s.riu ∧
    (s.adoptIfDue f).sj = s.sj ∧ (s.adoptIfDue f).sps = s.sps ∧ (s.adoptIfDue f).sus = s.sus := by
  simp only [State.adoptIfDue]
  (repeat' split) <;> simp

@[simp] theorem State.makeCurrent_frame (s : State) (set : PriceSet) :
    (s.makeCurrent set).pending = s.pending ∧ (s.makeCurrent set).resetHeld = s.resetHeld ∧
    (s.makeCurrent set).pins = s.pins ∧ (s.makeCurrent set).clp = s.clp ∧ (s.makeCurrent set).miu = s.miu ∧
    (s.makeCurrent set).fpc = s.fpc ∧ (s.makeCurrent set).psg = s.psg ∧ (s.makeCurrent set).dbc = s.dbc ∧
    (s.makeCurrent set).riu = s.riu ∧ (s.makeCurrent set).sj = s.sj ∧ (s.makeCurrent set).sps = s.sps ∧
    (s.makeCurrent set).sus = s.sus := by
  simp [State.makeCurrent]

@[simp] theorem State.activate_frame (s : State) (set : PriceSet) :
    (s.activate set).pending = s.pending ∧ (s.activate set).resetHeld = s.resetHeld ∧
    (s.activate set).pins = s.pins ∧ (s.activate set).clp = s.clp ∧ (s.activate set).miu = s.miu ∧
    (s.activate set).psg = s.psg ∧ (s.activate set).riu = s.riu ∧ (s.activate set).sj = s.sj ∧
    (s.activate set).sps = s.sps := by
  simp [State.activate]

@[simp] theorem State.activateIfDue_frame (s : State) :
    s.activateIfDue.pending = s.pending ∧ s.activateIfDue.resetHeld = s.resetHeld ∧ s.activateIfDue.pins = s.pins ∧
    s.activateIfDue.clp = s.clp ∧ s.activateIfDue.miu = s.miu ∧ s.activateIfDue.psg = s.psg ∧
    s.activateIfDue.riu = s.riu ∧ s.activateIfDue.sj = s.sj ∧ s.activateIfDue.sps = s.sps := by
  simp only [State.activateIfDue]
  (repeat' split) <;> simp

@[simp] theorem State.fitPrices_frame (s : State) :
    s.fitPrices.pending = s.pending ∧ s.fitPrices.resetHeld = s.resetHeld ∧ s.fitPrices.pins = s.pins ∧
    s.fitPrices.clp = s.clp ∧ s.fitPrices.nu = s.nu ∧ s.fitPrices.miu = s.miu ∧ s.fitPrices.fpc = s.fpc ∧
    s.fitPrices.psg = s.psg ∧ s.fitPrices.riu = s.riu ∧ s.fitPrices.sj = s.sj ∧ s.fitPrices.sps = s.sps ∧
    s.fitPrices.sus = s.sus := by
  simp [State.fitPrices]

@[simp] theorem State.push_frame (s : State) (f : ReaderFrame) :
    (s.push f).pending = s.pending ∧ (s.push f).resetHeld = s.resetHeld ∧ (s.push f).pins = s.pins ∧
    (s.push f).clp = s.clp ∧ (s.push f).nu = s.nu ∧ (s.push f).miu = s.miu ∧ (s.push f).fpc = s.fpc ∧
    (s.push f).psg = s.psg ∧ (s.push f).pru = s.pru ∧ (s.push f).dbc = s.dbc ∧ (s.push f).sj = s.sj ∧
    (s.push f).sps = s.sps ∧ (s.push f).sus = s.sus := by
  simp [State.push]

@[simp] theorem State.pumpOff_frame (s : State) (p : Pump) :
    (s.pumpOff p).pending = s.pending ∧ (s.pumpOff p).resetHeld = s.resetHeld ∧ (s.pumpOff p).pins = s.pins ∧
    (s.pumpOff p).clp = s.clp ∧ (s.pumpOff p).nu = s.nu ∧ (s.pumpOff p).miu = s.miu ∧ (s.pumpOff p).fpc = s.fpc ∧
    (s.pumpOff p).pru = s.pru ∧ (s.pumpOff p).dbc = s.dbc ∧ (s.pumpOff p).riu = s.riu ∧ (s.pumpOff p).sj = s.sj ∧
    (s.pumpOff p).sps = s.sps ∧ (s.pumpOff p).sus = s.sus := by
  simp [State.pumpOff]

@[simp] theorem State.pumpRunOn_frame (s : State) (p : Pump) :
    (s.pumpRunOn p).pending = s.pending ∧ (s.pumpRunOn p).resetHeld = s.resetHeld ∧ (s.pumpRunOn p).pins = s.pins ∧
    (s.pumpRunOn p).clp = s.clp ∧ (s.pumpRunOn p).nu = s.nu ∧ (s.pumpRunOn p).miu = s.miu ∧
    (s.pumpRunOn p).fpc = s.fpc ∧ (s.pumpRunOn p).pru = s.pru ∧ (s.pumpRunOn p).dbc = s.dbc ∧
    (s.pumpRunOn p).riu = s.riu ∧ (s.pumpRunOn p).sj = s.sj ∧ (s.pumpRunOn p).sps = s.sps ∧
    (s.pumpRunOn p).sus = s.sus := by
  simp only [State.pumpRunOn]
  (repeat' split) <;> simp

@[simp] theorem State.grant_frame (s : State) (p : Pump) (rest : List Pump) :
    (s.grant p rest).pending = s.pending ∧ (s.grant p rest).resetHeld = s.resetHeld ∧
    (s.grant p rest).pins = s.pins ∧ (s.grant p rest).clp = s.clp ∧ (s.grant p rest).nu = s.nu ∧
    (s.grant p rest).miu = s.miu ∧ (s.grant p rest).fpc = s.fpc ∧ (s.grant p rest).pru = s.pru ∧
    (s.grant p rest).dbc = s.dbc ∧ (s.grant p rest).riu = s.riu ∧ (s.grant p rest).sj = s.sj ∧
    (s.grant p rest).sps = s.sps ∧ (s.grant p rest).sus = s.sus := by
  simp [State.grant]

@[simp] theorem State.gate_frame (s : State) :
    s.gate.pending = s.pending ∧ s.gate.resetHeld = s.resetHeld ∧ s.gate.pins = s.pins ∧ s.gate.clp = s.clp ∧
    s.gate.nu = s.nu ∧ s.gate.miu = s.miu ∧ s.gate.fpc = s.fpc ∧ s.gate.pru = s.pru ∧ s.gate.dbc = s.dbc ∧
    s.gate.riu = s.riu ∧ s.gate.sj = s.sj ∧ s.gate.sps = s.sps ∧ s.gate.sus = s.sus := by
  simp only [State.gate]
  (repeat' split) <;> simp

@[simp] theorem State.enqueue_frame (s : State) (p : Pump) :
    (s.enqueue p).pending = s.pending ∧ (s.enqueue p).resetHeld = s.resetHeld ∧ (s.enqueue p).pins = s.pins ∧
    (s.enqueue p).clp = s.clp ∧ (s.enqueue p).nu = s.nu ∧ (s.enqueue p).miu = s.miu ∧ (s.enqueue p).fpc = s.fpc ∧
    (s.enqueue p).pru = s.pru ∧ (s.enqueue p).dbc = s.dbc ∧ (s.enqueue p).riu = s.riu ∧ (s.enqueue p).sj = s.sj ∧
    (s.enqueue p).sps = s.sps ∧ (s.enqueue p).sus = s.sus := by
  simp only [State.enqueue]
  (repeat' split) <;> simp

@[simp] theorem State.dequeue_frame (s : State) (p : Pump) :
    (s.dequeue p).pending = s.pending ∧ (s.dequeue p).resetHeld = s.resetHeld ∧ (s.dequeue p).pins = s.pins ∧
    (s.dequeue p).clp = s.clp ∧ (s.dequeue p).nu = s.nu ∧ (s.dequeue p).miu = s.miu ∧ (s.dequeue p).fpc = s.fpc ∧
    (s.dequeue p).pru = s.pru ∧ (s.dequeue p).dbc = s.dbc ∧ (s.dequeue p).riu = s.riu ∧ (s.dequeue p).sj = s.sj ∧
    (s.dequeue p).sps = s.sps ∧ (s.dequeue p).sus = s.sus := by
  simp only [State.dequeue]
  (repeat' split) <;> simp

@[simp] theorem State.demandRise_frame (s : State) (p : Pump) :
    (s.demandRise p).pending = s.pending ∧ (s.demandRise p).resetHeld = s.resetHeld ∧
    (s.demandRise p).pins = s.pins ∧ (s.demandRise p).clp = s.clp ∧ (s.demandRise p).nu = s.nu ∧
    (s.demandRise p).miu = s.miu ∧ (s.demandRise p).fpc = s.fpc ∧ (s.demandRise p).pru = s.pru ∧
    (s.demandRise p).dbc = s.dbc ∧ (s.demandRise p).riu = s.riu ∧ (s.demandRise p).sj = s.sj ∧
    (s.demandRise p).sps = s.sps ∧ (s.demandRise p).sus = s.sus := by
  simp only [State.demandRise]
  (repeat' split) <;> simp

@[simp] theorem State.demandFall_frame (s : State) (p : Pump) :
    (s.demandFall p).pending = s.pending ∧ (s.demandFall p).resetHeld = s.resetHeld ∧
    (s.demandFall p).pins = s.pins ∧ (s.demandFall p).clp = s.clp ∧ (s.demandFall p).nu = s.nu ∧
    (s.demandFall p).miu = s.miu ∧ (s.demandFall p).fpc = s.fpc ∧ (s.demandFall p).pru = s.pru ∧
    (s.demandFall p).dbc = s.dbc ∧ (s.demandFall p).riu = s.riu ∧ (s.demandFall p).sj = s.sj ∧
    (s.demandFall p).sps = s.sps ∧ (s.demandFall p).sus = s.sus := by
  simp only [State.demandFall]
  (repeat' split) <;> simp

@[simp] theorem State.reachRunning_frame (s : State) (p : Pump) :
    (s.reachRunning p).pending = s.pending ∧ (s.reachRunning p).resetHeld = s.resetHeld ∧
    (s.reachRunning p).pins = s.pins ∧ (s.reachRunning p).clp = s.clp ∧ (s.reachRunning p).nu = s.nu ∧
    (s.reachRunning p).miu = s.miu ∧ (s.reachRunning p).fpc = s.fpc ∧ (s.reachRunning p).pru = s.pru ∧
    (s.reachRunning p).dbc = s.dbc ∧ (s.reachRunning p).riu = s.riu ∧ (s.reachRunning p).sj = s.sj ∧
    (s.reachRunning p).sps = s.sps ∧ (s.reachRunning p).sus = s.sus := by
  simp only [State.reachRunning]
  (repeat' split) <;> simp

@[simp] theorem State.startPriming_frame (s : State) (p : Pump) :
    (s.startPriming p).pending = s.pending ∧ (s.startPriming p).resetHeld = s.resetHeld ∧
    (s.startPriming p).pins = s.pins ∧ (s.startPriming p).clp = s.clp ∧ (s.startPriming p).nu = s.nu ∧
    (s.startPriming p).miu = s.miu ∧ (s.startPriming p).fpc = s.fpc ∧ (s.startPriming p).pru = s.pru ∧
    (s.startPriming p).dbc = s.dbc ∧ (s.startPriming p).riu = s.riu ∧ (s.startPriming p).sj = s.sj ∧
    (s.startPriming p).sps = s.sps ∧ (s.startPriming p).sus = s.sus := by
  simp only [State.startPriming]
  (repeat' split) <;> simp

@[simp] theorem State.pumpFailed_frame (s : State) (p : Pump) (c : PumpCause) :
    (s.pumpFailed p c).pending = s.pending ∧ (s.pumpFailed p c).resetHeld = s.resetHeld ∧
    (s.pumpFailed p c).pins = s.pins ∧ (s.pumpFailed p c).clp = s.clp ∧ (s.pumpFailed p c).miu = s.miu ∧
    (s.pumpFailed p c).fpc = s.fpc ∧ (s.pumpFailed p c).pru = s.pru ∧ (s.pumpFailed p c).dbc = s.dbc ∧
    (s.pumpFailed p c).riu = s.riu ∧ (s.pumpFailed p c).sj = s.sj ∧ (s.pumpFailed p c).sps = s.sps ∧
    (s.pumpFailed p c).sus = s.sus := by
  simp [State.pumpFailed]

@[simp] theorem State.register_frame (s : State) (t : Nat) :
    (s.register t).pending = s.pending ∧ (s.register t).resetHeld = s.resetHeld ∧ (s.register t).pins = s.pins ∧
    (s.register t).clp = s.clp ∧ (s.register t).nu = s.nu ∧ (s.register t).miu = s.miu ∧
    (s.register t).fpc = s.fpc ∧ (s.register t).pru = s.pru ∧ (s.register t).dbc = s.dbc ∧
    (s.register t).riu = s.riu ∧ (s.register t).sj = s.sj ∧ (s.register t).sps = s.sps ∧
    (s.register t).sus = s.sus := by
  simp only [State.register]
  (repeat' split) <;> simp

@[simp] theorem State.withdraw_frame (s : State) (t : Nat) :
    (s.withdraw t).pending = s.pending ∧ (s.withdraw t).resetHeld = s.resetHeld ∧ (s.withdraw t).pins = s.pins ∧
    (s.withdraw t).clp = s.clp ∧ (s.withdraw t).nu = s.nu ∧ (s.withdraw t).miu = s.miu ∧
    (s.withdraw t).fpc = s.fpc ∧ (s.withdraw t).pru = s.pru ∧ (s.withdraw t).dbc = s.dbc ∧
    (s.withdraw t).riu = s.riu ∧ (s.withdraw t).sj = s.sj ∧ (s.withdraw t).sps = s.sps ∧
    (s.withdraw t).sus = s.sus := by
  simp only [State.withdraw]
  (repeat' split) <;> simp

@[simp] theorem State.freezePump_frame (s : State) (p : Pump) :
    (s.freezePump p).pending = s.pending ∧ (s.freezePump p).resetHeld = s.resetHeld ∧
    (s.freezePump p).pins = s.pins ∧ (s.freezePump p).clp = s.clp ∧ (s.freezePump p).nu = s.nu ∧
    (s.freezePump p).miu = s.miu ∧ (s.freezePump p).fpc = s.fpc ∧ (s.freezePump p).pru = s.pru ∧
    (s.freezePump p).dbc = s.dbc ∧ (s.freezePump p).riu = s.riu ∧ (s.freezePump p).sj = s.sj ∧
    (s.freezePump p).sps = s.sps ∧ (s.freezePump p).sus = s.sus := by
  simp only [State.freezePump]
  (repeat' split) <;> simp

@[simp] theorem State.freezePumps_frame (s : State) :
    s.freezePumps.pending = s.pending ∧ s.freezePumps.resetHeld = s.resetHeld ∧ s.freezePumps.pins = s.pins ∧
    s.freezePumps.clp = s.clp ∧ s.freezePumps.nu = s.nu ∧ s.freezePumps.miu = s.miu ∧ s.freezePumps.fpc = s.fpc ∧
    s.freezePumps.pru = s.pru ∧ s.freezePumps.dbc = s.dbc ∧ s.freezePumps.riu = s.riu ∧ s.freezePumps.sj = s.sj ∧
    s.freezePumps.sps = s.sps ∧ s.freezePumps.sus = s.sus := by
  simp [State.freezePumps]

@[simp] theorem State.shutPump_frame (s : State) (p : Pump) :
    (s.shutPump p).pending = s.pending ∧ (s.shutPump p).resetHeld = s.resetHeld ∧ (s.shutPump p).pins = s.pins ∧
    (s.shutPump p).clp = s.clp ∧ (s.shutPump p).nu = s.nu ∧ (s.shutPump p).miu = s.miu ∧
    (s.shutPump p).fpc = s.fpc ∧ (s.shutPump p).pru = s.pru ∧ (s.shutPump p).dbc = s.dbc ∧
    (s.shutPump p).riu = s.riu ∧ (s.shutPump p).sj = s.sj ∧ (s.shutPump p).sps = s.sps ∧
    (s.shutPump p).sus = s.sus := by
  simp only [State.shutPump]
  (repeat' split) <;> simp

@[simp] theorem State.addClosed_frame (s : State) (f : Fp) (k : ClosedCause) :
    (s.addClosed f k).pending = s.pending ∧ (s.addClosed f k).resetHeld = s.resetHeld ∧
    (s.addClosed f k).pins = s.pins ∧ (s.addClosed f k).clp = s.clp ∧ (s.addClosed f k).nu = s.nu ∧
    (s.addClosed f k).miu = s.miu ∧ (s.addClosed f k).psg = s.psg ∧ (s.addClosed f k).pru = s.pru ∧
    (s.addClosed f k).dbc = s.dbc ∧ (s.addClosed f k).riu = s.riu ∧ (s.addClosed f k).sj = s.sj ∧
    (s.addClosed f k).sps = s.sps ∧ (s.addClosed f k).sus = s.sus := by
  simp [State.addClosed]

@[simp] theorem State.removeClosed_frame (s : State) (f : Fp) (k : ClosedCause) :
    (s.removeClosed f k).pending = s.pending ∧ (s.removeClosed f k).resetHeld = s.resetHeld ∧
    (s.removeClosed f k).pins = s.pins ∧ (s.removeClosed f k).clp = s.clp ∧ (s.removeClosed f k).nu = s.nu ∧
    (s.removeClosed f k).miu = s.miu ∧ (s.removeClosed f k).psg = s.psg ∧ (s.removeClosed f k).riu = s.riu ∧
    (s.removeClosed f k).sj = s.sj ∧ (s.removeClosed f k).sps = s.sps ∧ (s.removeClosed f k).sus = s.sus := by
  simp only [State.removeClosed]
  (repeat' split) <;> simp

@[simp] theorem State.setDisplayCause_frame (s : State) (f : Fp) :
    (s.setDisplayCause f).pending = s.pending ∧ (s.setDisplayCause f).resetHeld = s.resetHeld ∧
    (s.setDisplayCause f).pins = s.pins ∧ (s.setDisplayCause f).clp = s.clp ∧ (s.setDisplayCause f).nu = s.nu ∧
    (s.setDisplayCause f).miu = s.miu ∧ (s.setDisplayCause f).psg = s.psg ∧ (s.setDisplayCause f).riu = s.riu ∧
    (s.setDisplayCause f).sj = s.sj ∧ (s.setDisplayCause f).sps = s.sps ∧ (s.setDisplayCause f).sus = s.sus := by
  simp only [State.setDisplayCause]
  (repeat' split) <;> simp

@[simp] theorem State.lock_frame (s : State) (f : Fp) (causes : LockCauses) :
    (s.lock f causes).pending = s.pending ∧ (s.lock f causes).resetHeld = s.resetHeld ∧
    (s.lock f causes).pins = s.pins ∧ (s.lock f causes).clp = s.clp ∧ (s.lock f causes).miu = s.miu ∧
    (s.lock f causes).psg = s.psg ∧ (s.lock f causes).pru = s.pru ∧ (s.lock f causes).dbc = s.dbc ∧
    (s.lock f causes).riu = s.riu ∧ (s.lock f causes).sj = s.sj ∧ (s.lock f causes).sps = s.sps ∧
    (s.lock f causes).sus = s.sus := by
  simp only [State.lock]
  (repeat' split) <;> simp

@[simp] theorem State.pushEnded_frame (s : State) (f : Fp) (a : Auth) (cause : DropCause) :
    (s.pushEnded f a cause).pending = s.pending ∧ (s.pushEnded f a cause).resetHeld = s.resetHeld ∧
    (s.pushEnded f a cause).pins = s.pins ∧ (s.pushEnded f a cause).clp = s.clp ∧
    (s.pushEnded f a cause).nu = s.nu ∧ (s.pushEnded f a cause).miu = s.miu ∧ (s.pushEnded f a cause).fpc = s.fpc ∧
    (s.pushEnded f a cause).psg = s.psg ∧ (s.pushEnded f a cause).pru = s.pru ∧
    (s.pushEnded f a cause).dbc = s.dbc ∧ (s.pushEnded f a cause).sj = s.sj ∧ (s.pushEnded f a cause).sps = s.sps ∧
    (s.pushEnded f a cause).sus = s.sus := by
  simp only [State.pushEnded]
  (repeat' split) <;> simp

@[simp] theorem State.drop_frame (s : State) (f : Fp) (cause : DropCause) :
    (s.drop f cause).pending = s.pending ∧ (s.drop f cause).resetHeld = s.resetHeld ∧
    (s.drop f cause).pins = s.pins ∧ (s.drop f cause).clp = s.clp ∧ (s.drop f cause).miu = s.miu ∧
    (s.drop f cause).psg = s.psg ∧ (s.drop f cause).pru = s.pru ∧ (s.drop f cause).dbc = s.dbc ∧
    (s.drop f cause).sps = s.sps ∧ (s.drop f cause).sus = s.sus := by
  simp only [State.drop]
  (repeat' split) <;> simp

@[simp] theorem State.dropArmed_frame (s : State) (f : Fp) (cause : DropCause) :
    (s.dropArmed f cause).pending = s.pending ∧ (s.dropArmed f cause).resetHeld = s.resetHeld ∧
    (s.dropArmed f cause).pins = s.pins ∧ (s.dropArmed f cause).clp = s.clp ∧ (s.dropArmed f cause).miu = s.miu ∧
    (s.dropArmed f cause).psg = s.psg ∧ (s.dropArmed f cause).pru = s.pru ∧ (s.dropArmed f cause).dbc = s.dbc ∧
    (s.dropArmed f cause).sps = s.sps ∧ (s.dropArmed f cause).sus = s.sus := by
  simp only [State.dropArmed]
  (repeat' split) <;> simp

@[simp] theorem State.dropReader_frame (s : State) (f : Fp) (cause : DropCause) :
    (s.dropReader f cause).pending = s.pending ∧ (s.dropReader f cause).resetHeld = s.resetHeld ∧
    (s.dropReader f cause).pins = s.pins ∧ (s.dropReader f cause).clp = s.clp ∧
    (s.dropReader f cause).miu = s.miu ∧ (s.dropReader f cause).psg = s.psg ∧ (s.dropReader f cause).pru = s.pru ∧
    (s.dropReader f cause).dbc = s.dbc ∧ (s.dropReader f cause).sps = s.sps ∧
    (s.dropReader f cause).sus = s.sus := by
  simp only [State.dropReader]
  (repeat' split) <;> simp

@[simp] theorem State.afterSale_frame (s : State) (f : Fp) (reason : EndReason) :
    (s.afterSale f reason).pending = s.pending ∧ (s.afterSale f reason).resetHeld = s.resetHeld ∧
    (s.afterSale f reason).pins = s.pins ∧ (s.afterSale f reason).clp = s.clp ∧
    (s.afterSale f reason).miu = s.miu ∧ (s.afterSale f reason).psg = s.psg ∧ (s.afterSale f reason).pru = s.pru ∧
    (s.afterSale f reason).dbc = s.dbc ∧ (s.afterSale f reason).riu = s.riu ∧ (s.afterSale f reason).sj = s.sj ∧
    (s.afterSale f reason).sps = s.sps ∧ (s.afterSale f reason).sus = s.sus := by
  simp only [State.afterSale]
  (repeat' split) <;> simp

@[simp] theorem State.endEntryOf_frame (s : State) (f : Fp) (a : Auth) (r : Sale) (reason : EndReason) :
    (s.endEntryOf f a r reason).pending = s.pending ∧ (s.endEntryOf f a r reason).resetHeld = s.resetHeld ∧
    (s.endEntryOf f a r reason).pins = s.pins ∧ (s.endEntryOf f a r reason).clp = s.clp ∧
    (s.endEntryOf f a r reason).nu = s.nu ∧ (s.endEntryOf f a r reason).miu = s.miu ∧
    (s.endEntryOf f a r reason).fpc = s.fpc ∧ (s.endEntryOf f a r reason).psg = s.psg ∧
    (s.endEntryOf f a r reason).pru = s.pru ∧ (s.endEntryOf f a r reason).dbc = s.dbc ∧
    (s.endEntryOf f a r reason).riu = s.riu ∧ (s.endEntryOf f a r reason).sps = s.sps ∧
    (s.endEntryOf f a r reason).sus = s.sus := by
  simp only [State.endEntryOf]
  (repeat' split) <;> simp

@[simp] theorem State.learn_frame (s : State) (f : Fp) (r : Sale) (reason : EndReason) :
    (s.learn f r reason).pending = s.pending ∧ (s.learn f r reason).resetHeld = s.resetHeld ∧
    (s.learn f r reason).pins = s.pins ∧ (s.learn f r reason).clp = s.clp ∧ (s.learn f r reason).nu = s.nu ∧
    (s.learn f r reason).miu = s.miu ∧ (s.learn f r reason).fpc = s.fpc ∧ (s.learn f r reason).psg = s.psg ∧
    (s.learn f r reason).pru = s.pru ∧ (s.learn f r reason).dbc = s.dbc ∧ (s.learn f r reason).riu = s.riu ∧
    (s.learn f r reason).sps = s.sps ∧ (s.learn f r reason).sus = s.sus := by
  simp only [State.learn]
  (repeat' split) <;> simp

@[simp] theorem State.announceSale_frame (s : State) (f : Fp) (a : Auth) :
    (s.announceSale f a).pending = s.pending ∧ (s.announceSale f a).resetHeld = s.resetHeld ∧
    (s.announceSale f a).pins = s.pins ∧ (s.announceSale f a).clp = s.clp ∧ (s.announceSale f a).miu = s.miu ∧
    (s.announceSale f a).fpc = s.fpc ∧ (s.announceSale f a).psg = s.psg ∧ (s.announceSale f a).pru = s.pru ∧
    (s.announceSale f a).dbc = s.dbc ∧ (s.announceSale f a).sj = s.sj ∧ (s.announceSale f a).sps = s.sps ∧
    (s.announceSale f a).sus = s.sus := by
  simp only [State.announceSale]
  (repeat' split) <;> simp

@[simp] theorem State.endSaleWith_frame (s : State) (f : Fp) (a : Auth) (r : Sale) (reason : EndReason) (registered : Bool) :
    (s.endSaleWith f a r reason registered).pending = s.pending ∧
    (s.endSaleWith f a r reason registered).resetHeld = s.resetHeld ∧
    (s.endSaleWith f a r reason registered).pins = s.pins ∧ (s.endSaleWith f a r reason registered).clp = s.clp ∧
    (s.endSaleWith f a r reason registered).miu = s.miu ∧ (s.endSaleWith f a r reason registered).sps = s.sps ∧
    (s.endSaleWith f a r reason registered).sus = s.sus := by
  simp only [State.endSaleWith]
  (repeat' split) <;> simp

@[simp] theorem State.endSale_frame (s : State) (f : Fp) (reason : EndReason) :
    (s.endSale f reason).pending = s.pending ∧ (s.endSale f reason).resetHeld = s.resetHeld ∧
    (s.endSale f reason).pins = s.pins ∧ (s.endSale f reason).clp = s.clp ∧ (s.endSale f reason).miu = s.miu ∧
    (s.endSale f reason).sps = s.sps ∧ (s.endSale f reason).sus = s.sus := by
  simp only [State.endSale]
  (repeat' split) <;> simp

@[simp] theorem State.stopSale_frame (s : State) (f : Fp) (cause : StopCause) :
    (s.stopSale f cause).pending = s.pending ∧ (s.stopSale f cause).resetHeld = s.resetHeld ∧
    (s.stopSale f cause).pins = s.pins ∧ (s.stopSale f cause).clp = s.clp ∧ (s.stopSale f cause).nu = s.nu ∧
    (s.stopSale f cause).miu = s.miu ∧ (s.stopSale f cause).psg = s.psg ∧ (s.stopSale f cause).pru = s.pru ∧
    (s.stopSale f cause).dbc = s.dbc ∧ (s.stopSale f cause).riu = s.riu ∧ (s.stopSale f cause).sj = s.sj ∧
    (s.stopSale f cause).sps = s.sps ∧ (s.stopSale f cause).sus = s.sus := by
  simp only [State.stopSale]
  (repeat' split) <;> simp

@[simp] theorem State.replacePreset_frame (s : State) (f : Fp) (cause : StopCause) :
    (s.replacePreset f cause).pending = s.pending ∧ (s.replacePreset f cause).resetHeld = s.resetHeld ∧
    (s.replacePreset f cause).pins = s.pins ∧ (s.replacePreset f cause).clp = s.clp ∧
    (s.replacePreset f cause).nu = s.nu ∧ (s.replacePreset f cause).miu = s.miu ∧
    (s.replacePreset f cause).psg = s.psg ∧ (s.replacePreset f cause).pru = s.pru ∧
    (s.replacePreset f cause).dbc = s.dbc ∧ (s.replacePreset f cause).riu = s.riu ∧
    (s.replacePreset f cause).sj = s.sj ∧ (s.replacePreset f cause).sps = s.sps ∧
    (s.replacePreset f cause).sus = s.sus := by
  simp only [State.replacePreset]
  (repeat' split) <;> simp

@[simp] theorem State.meterFaultFp_frame (s : State) (f : Fp) :
    (s.meterFaultFp f).pending = s.pending ∧ (s.meterFaultFp f).resetHeld = s.resetHeld ∧
    (s.meterFaultFp f).pins = s.pins ∧ (s.meterFaultFp f).clp = s.clp ∧ (s.meterFaultFp f).miu = s.miu ∧
    (s.meterFaultFp f).sps = s.sps ∧ (s.meterFaultFp f).sus = s.sus := by
  simp only [State.meterFaultFp]
  (repeat' split) <;> simp

@[simp] theorem State.mainFaultFp_frame (s : State) (f : Fp) :
    (s.mainFaultFp f).pending = s.pending ∧ (s.mainFaultFp f).resetHeld = s.resetHeld ∧
    (s.mainFaultFp f).pins = s.pins ∧ (s.mainFaultFp f).clp = s.clp ∧ (s.mainFaultFp f).miu = s.miu ∧
    (s.mainFaultFp f).sps = s.sps ∧ (s.mainFaultFp f).sus = s.sus := by
  simp only [State.mainFaultFp]
  (repeat' split) <;> simp

@[simp] theorem State.panelFaultFp_frame (s : State) (f : Fp) :
    (s.panelFaultFp f).pending = s.pending ∧ (s.panelFaultFp f).resetHeld = s.resetHeld ∧
    (s.panelFaultFp f).pins = s.pins ∧ (s.panelFaultFp f).clp = s.clp ∧ (s.panelFaultFp f).miu = s.miu ∧
    (s.panelFaultFp f).psg = s.psg ∧ (s.panelFaultFp f).pru = s.pru ∧ (s.panelFaultFp f).dbc = s.dbc ∧
    (s.panelFaultFp f).sps = s.sps ∧ (s.panelFaultFp f).sus = s.sus := by
  simp only [State.panelFaultFp]
  (repeat' split) <;> simp

@[simp] theorem State.reportStale_frame (s : State) (f : Fp) (w : WatchedField) :
    (s.reportStale f w).pending = s.pending ∧ (s.reportStale f w).resetHeld = s.resetHeld ∧
    (s.reportStale f w).pins = s.pins ∧ (s.reportStale f w).clp = s.clp ∧ (s.reportStale f w).miu = s.miu ∧
    (s.reportStale f w).psg = s.psg ∧ (s.reportStale f w).pru = s.pru ∧ (s.reportStale f w).riu = s.riu ∧
    (s.reportStale f w).sj = s.sj ∧ (s.reportStale f w).sps = s.sps ∧ (s.reportStale f w).sus = s.sus := by
  simp only [State.reportStale]
  (repeat' split) <;> simp

@[simp] theorem State.staleTest_frame (s : State) (f : Fp) (w : WatchedField) :
    (s.staleTest f w).pending = s.pending ∧ (s.staleTest f w).resetHeld = s.resetHeld ∧
    (s.staleTest f w).pins = s.pins ∧ (s.staleTest f w).clp = s.clp ∧ (s.staleTest f w).miu = s.miu ∧
    (s.staleTest f w).psg = s.psg ∧ (s.staleTest f w).pru = s.pru ∧ (s.staleTest f w).riu = s.riu ∧
    (s.staleTest f w).sj = s.sj ∧ (s.staleTest f w).sps = s.sps ∧ (s.staleTest f w).sus = s.sus := by
  simp only [State.staleTest]
  (repeat' split) <;> simp

@[simp] theorem State.staleTests_frame (s : State) (f : Fp) :
    (s.staleTests f).pending = s.pending ∧ (s.staleTests f).resetHeld = s.resetHeld ∧
    (s.staleTests f).pins = s.pins ∧ (s.staleTests f).clp = s.clp ∧ (s.staleTests f).miu = s.miu ∧
    (s.staleTests f).psg = s.psg ∧ (s.staleTests f).pru = s.pru ∧ (s.staleTests f).riu = s.riu ∧
    (s.staleTests f).sj = s.sj ∧ (s.staleTests f).sps = s.sps ∧ (s.staleTests f).sus = s.sus := by
  simp [State.staleTests]

@[simp] theorem State.fuelWith_frame (s : State) (f : Fp) (x : Sale × Option StopCause) :
    (s.fuelWith f x).pending = s.pending ∧ (s.fuelWith f x).resetHeld = s.resetHeld ∧
    (s.fuelWith f x).pins = s.pins ∧ (s.fuelWith f x).clp = s.clp ∧ (s.fuelWith f x).nu = s.nu ∧
    (s.fuelWith f x).miu = s.miu ∧ (s.fuelWith f x).psg = s.psg ∧ (s.fuelWith f x).pru = s.pru ∧
    (s.fuelWith f x).dbc = s.dbc ∧ (s.fuelWith f x).riu = s.riu ∧ (s.fuelWith f x).sj = s.sj ∧
    (s.fuelWith f x).sps = s.sps ∧ (s.fuelWith f x).sus = s.sus := by
  simp only [State.fuelWith]
  (repeat' split) <;> simp

@[simp] theorem State.enterFueling_frame (s : State) (f : Fp) (r : Sale) :
    (s.enterFueling f r).pending = s.pending ∧ (s.enterFueling f r).resetHeld = s.resetHeld ∧
    (s.enterFueling f r).pins = s.pins ∧ (s.enterFueling f r).clp = s.clp ∧ (s.enterFueling f r).miu = s.miu ∧
    (s.enterFueling f r).psg = s.psg ∧ (s.enterFueling f r).pru = s.pru ∧ (s.enterFueling f r).riu = s.riu ∧
    (s.enterFueling f r).sj = s.sj ∧ (s.enterFueling f r).sps = s.sps ∧ (s.enterFueling f r).sus = s.sus := by
  simp [State.enterFueling]

@[simp] theorem State.tryFueling_frame (s : State) (f : Fp) :
    (s.tryFueling f).pending = s.pending ∧ (s.tryFueling f).resetHeld = s.resetHeld ∧
    (s.tryFueling f).pins = s.pins ∧ (s.tryFueling f).clp = s.clp ∧ (s.tryFueling f).miu = s.miu ∧
    (s.tryFueling f).psg = s.psg ∧ (s.tryFueling f).pru = s.pru ∧ (s.tryFueling f).riu = s.riu ∧
    (s.tryFueling f).sj = s.sj ∧ (s.tryFueling f).sps = s.sps ∧ (s.tryFueling f).sus = s.sus := by
  simp only [State.tryFueling]
  (repeat' split) <;> simp

@[simp] theorem State.enterTopUp_frame (s : State) (f : Fp) (r : Sale) :
    (s.enterTopUp f r).pending = s.pending ∧ (s.enterTopUp f r).resetHeld = s.resetHeld ∧
    (s.enterTopUp f r).pins = s.pins ∧ (s.enterTopUp f r).clp = s.clp ∧ (s.enterTopUp f r).miu = s.miu ∧
    (s.enterTopUp f r).psg = s.psg ∧ (s.enterTopUp f r).pru = s.pru ∧ (s.enterTopUp f r).riu = s.riu ∧
    (s.enterTopUp f r).sj = s.sj ∧ (s.enterTopUp f r).sps = s.sps ∧ (s.enterTopUp f r).sus = s.sus := by
  simp [State.enterTopUp]

@[simp] theorem State.runOutOver_frame (s : State) (f : Fp) :
    (s.runOutOver f).pending = s.pending ∧ (s.runOutOver f).resetHeld = s.resetHeld ∧
    (s.runOutOver f).pins = s.pins ∧ (s.runOutOver f).clp = s.clp ∧ (s.runOutOver f).miu = s.miu ∧
    (s.runOutOver f).sps = s.sps ∧ (s.runOutOver f).sus = s.sus := by
  simp only [State.runOutOver]
  (repeat' split) <;> simp

@[simp] theorem State.clearBacklash_frame (s : State) (f : Fp) :
    (s.clearBacklash f).pending = s.pending ∧ (s.clearBacklash f).resetHeld = s.resetHeld ∧
    (s.clearBacklash f).pins = s.pins ∧ (s.clearBacklash f).clp = s.clp ∧ (s.clearBacklash f).nu = s.nu ∧
    (s.clearBacklash f).fpc = s.fpc ∧ (s.clearBacklash f).psg = s.psg ∧ (s.clearBacklash f).pru = s.pru ∧
    (s.clearBacklash f).dbc = s.dbc ∧ (s.clearBacklash f).riu = s.riu ∧ (s.clearBacklash f).sj = s.sj ∧
    (s.clearBacklash f).sps = s.sps ∧ (s.clearBacklash f).sus = s.sus := by
  simp [State.clearBacklash]

@[simp] theorem State.dropHold_frame (s : State) (f : Fp) :
    (s.dropHold f).pending = s.pending ∧ (s.dropHold f).resetHeld = s.resetHeld ∧ (s.dropHold f).pins = s.pins ∧
    (s.dropHold f).clp = s.clp ∧ (s.dropHold f).nu = s.nu ∧ (s.dropHold f).miu = s.miu ∧
    (s.dropHold f).psg = s.psg ∧ (s.dropHold f).pru = s.pru ∧ (s.dropHold f).dbc = s.dbc ∧
    (s.dropHold f).riu = s.riu ∧ (s.dropHold f).sj = s.sj ∧ (s.dropHold f).sus = s.sus := by
  simp [State.dropHold]

@[simp] theorem State.enterStarting_frame (s : State) (f : Fp) (n : Nozzle) (a : Auth) (g : Grade) :
    (s.enterStarting f n a g).pending = s.pending ∧ (s.enterStarting f n a g).resetHeld = s.resetHeld ∧
    (s.enterStarting f n a g).pins = s.pins ∧ (s.enterStarting f n a g).clp = s.clp ∧
    (s.enterStarting f n a g).riu = s.riu ∧ (s.enterStarting f n a g).sus = s.sus := by
  simp [State.enterStarting]

@[simp] theorem State.failStart_frame (s : State) (f : Fp) (n : Nozzle) (a : Auth) (g : Grade) :
    (s.failStart f n a g).pending = s.pending ∧ (s.failStart f n a g).resetHeld = s.resetHeld ∧
    (s.failStart f n a g).pins = s.pins ∧ (s.failStart f n a g).clp = s.clp ∧ (s.failStart f n a g).miu = s.miu ∧
    (s.failStart f n a g).sps = s.sps ∧ (s.failStart f n a g).sus = s.sus := by
  simp [State.failStart]

@[simp] theorem State.wait_frame (s : State) (f : Fp) (w : Waiting) :
    (s.wait f w).pending = s.pending ∧ (s.wait f w).resetHeld = s.resetHeld ∧ (s.wait f w).pins = s.pins ∧
    (s.wait f w).clp = s.clp ∧ (s.wait f w).nu = s.nu ∧ (s.wait f w).miu = s.miu ∧ (s.wait f w).psg = s.psg ∧
    (s.wait f w).pru = s.pru ∧ (s.wait f w).dbc = s.dbc ∧ (s.wait f w).riu = s.riu ∧ (s.wait f w).sj = s.sj ∧
    (s.wait f w).sps = s.sps ∧ (s.wait f w).sus = s.sus := by
  simp [State.wait]

@[simp] theorem State.startCheck_frame (s : State) (f : Fp) (a : Auth) (n : Nozzle) (g : Grade) :
    (s.startCheck f a n g).pending = s.pending ∧ (s.startCheck f a n g).resetHeld = s.resetHeld ∧
    (s.startCheck f a n g).pins = s.pins ∧ (s.startCheck f a n g).clp = s.clp ∧
    (s.startCheck f a n g).sus = s.sus := by
  simp only [State.startCheck]
  (repeat' split) <;> simp

@[simp] theorem State.armedNozzles_frame (s : State) (f : Fp) :
    (s.armedNozzles f).pending = s.pending ∧ (s.armedNozzles f).resetHeld = s.resetHeld ∧
    (s.armedNozzles f).pins = s.pins ∧ (s.armedNozzles f).clp = s.clp ∧ (s.armedNozzles f).sus = s.sus := by
  simp only [State.armedNozzles]
  (repeat' split) <;> simp

@[simp] theorem State.authorize_frame (s : State) (f : Fp) (q : AuthAsk) :
    (s.authorize f q).2.pending = s.pending ∧ (s.authorize f q).2.resetHeld = s.resetHeld ∧
    (s.authorize f q).2.pins = s.pins ∧ (s.authorize f q).2.clp = s.clp ∧ (s.authorize f q).2.sus = s.sus := by
  simp only [State.authorize]
  (repeat' split) <;> simp

@[simp] theorem State.freezeFp_frame (s : State) (f : Fp) :
    (s.freezeFp f).pending = s.pending ∧ (s.freezeFp f).resetHeld = s.resetHeld ∧ (s.freezeFp f).pins = s.pins ∧
    (s.freezeFp f).clp = s.clp ∧ (s.freezeFp f).miu = s.miu ∧ (s.freezeFp f).sps = s.sps ∧
    (s.freezeFp f).sus = s.sus := by
  simp only [State.freezeFp]
  (repeat' split) <;> simp

@[simp] theorem State.graceOver_frame (s : State) (f : Fp) :
    (s.graceOver f).pending = s.pending ∧ (s.graceOver f).resetHeld = s.resetHeld ∧ (s.graceOver f).pins = s.pins ∧
    (s.graceOver f).clp = s.clp ∧ (s.graceOver f).miu = s.miu ∧ (s.graceOver f).sps = s.sps ∧
    (s.graceOver f).sus = s.sus := by
  simp only [State.graceOver]
  (repeat' split) <;> simp

@[simp] theorem State.pumpFaultFp_frame (s : State) (f : Fp) (p : Pump) :
    (s.pumpFaultFp f p).pending = s.pending ∧ (s.pumpFaultFp f p).resetHeld = s.resetHeld ∧
    (s.pumpFaultFp f p).pins = s.pins ∧ (s.pumpFaultFp f p).clp = s.clp ∧ (s.pumpFaultFp f p).miu = s.miu ∧
    (s.pumpFaultFp f p).sps = s.sps ∧ (s.pumpFaultFp f p).sus = s.sus := by
  simp only [State.pumpFaultFp]
  (repeat' split) <;> simp

@[simp] theorem State.saveLive_frame (s : State) (f : Fp) :
    (s.saveLive f).pending = s.pending ∧ (s.saveLive f).resetHeld = s.resetHeld ∧ (s.saveLive f).pins = s.pins ∧
    (s.saveLive f).clp = s.clp ∧ (s.saveLive f).nu = s.nu ∧ (s.saveLive f).miu = s.miu ∧
    (s.saveLive f).fpc = s.fpc ∧ (s.saveLive f).psg = s.psg ∧ (s.saveLive f).pru = s.pru ∧
    (s.saveLive f).dbc = s.dbc ∧ (s.saveLive f).riu = s.riu ∧ (s.saveLive f).sps = s.sps ∧
    (s.saveLive f).sus = s.sus := by
  simp only [State.saveLive]
  (repeat' split) <;> simp

@[simp] theorem State.setSale_frame (s : State) (f : Fp) (r : Sale) :
    (s.setSale f r).pending = s.pending ∧ (s.setSale f r).resetHeld = s.resetHeld ∧ (s.setSale f r).pins = s.pins ∧
    (s.setSale f r).clp = s.clp ∧ (s.setSale f r).nu = s.nu ∧ (s.setSale f r).miu = s.miu ∧
    (s.setSale f r).psg = s.psg ∧ (s.setSale f r).pru = s.pru ∧ (s.setSale f r).dbc = s.dbc ∧
    (s.setSale f r).riu = s.riu ∧ (s.setSale f r).sps = s.sps ∧ (s.setSale f r).sus = s.sus := by
  simp [State.setSale]

@[simp] theorem State.creditFueling_frame (s : State) (f : Fp) (r : Sale) (p : Product) (cf : Nat) :
    (s.creditFueling f r p cf).pending = s.pending ∧ (s.creditFueling f r p cf).resetHeld = s.resetHeld ∧
    (s.creditFueling f r p cf).pins = s.pins ∧ (s.creditFueling f r p cf).clp = s.clp ∧
    (s.creditFueling f r p cf).nu = s.nu ∧ (s.creditFueling f r p cf).miu = s.miu ∧
    (s.creditFueling f r p cf).psg = s.psg ∧ (s.creditFueling f r p cf).pru = s.pru ∧
    (s.creditFueling f r p cf).dbc = s.dbc ∧ (s.creditFueling f r p cf).riu = s.riu ∧
    (s.creditFueling f r p cf).sps = s.sps ∧ (s.creditFueling f r p cf).sus = s.sus := by
  simp only [State.creditFueling]
  (repeat' split) <;> simp

@[simp] theorem State.creditSale_frame (s : State) (f : Fp) (p : Product) (cf : Nat) :
    (s.creditSale f p cf).pending = s.pending ∧ (s.creditSale f p cf).resetHeld = s.resetHeld ∧
    (s.creditSale f p cf).pins = s.pins ∧ (s.creditSale f p cf).clp = s.clp ∧ (s.creditSale f p cf).nu = s.nu ∧
    (s.creditSale f p cf).miu = s.miu ∧ (s.creditSale f p cf).psg = s.psg ∧ (s.creditSale f p cf).riu = s.riu ∧
    (s.creditSale f p cf).sps = s.sps ∧ (s.creditSale f p cf).sus = s.sus := by
  simp only [State.creditSale]
  (repeat' split) <;> simp

@[simp] theorem State.extraNozzle_frame (s : State) (f : Fp) :
    (s.extraNozzle f).pending = s.pending ∧ (s.extraNozzle f).resetHeld = s.resetHeld ∧
    (s.extraNozzle f).pins = s.pins ∧ (s.extraNozzle f).clp = s.clp ∧ (s.extraNozzle f).nu = s.nu ∧
    (s.extraNozzle f).miu = s.miu ∧ (s.extraNozzle f).psg = s.psg ∧ (s.extraNozzle f).pru = s.pru ∧
    (s.extraNozzle f).dbc = s.dbc ∧ (s.extraNozzle f).riu = s.riu ∧ (s.extraNozzle f).sps = s.sps ∧
    (s.extraNozzle f).sus = s.sus := by
  simp only [State.extraNozzle]
  (repeat' split) <;> simp

@[simp] theorem State.takeNozzle_frame (s : State) (f : Fp) (n : Nozzle) (up : Bool) :
    (s.takeNozzle f n up).pending = s.pending ∧ (s.takeNozzle f n up).resetHeld = s.resetHeld ∧
    (s.takeNozzle f n up).pins = s.pins ∧ (s.takeNozzle f n up).clp = s.clp ∧ (s.takeNozzle f n up).nu = s.nu ∧
    (s.takeNozzle f n up).miu = s.miu ∧ (s.takeNozzle f n up).psg = s.psg ∧ (s.takeNozzle f n up).pru = s.pru ∧
    (s.takeNozzle f n up).dbc = s.dbc ∧ (s.takeNozzle f n up).riu = s.riu ∧ (s.takeNozzle f n up).sj = s.sj ∧
    (s.takeNozzle f n up).sps = s.sps ∧ (s.takeNozzle f n up).sus = s.sus := by
  simp [State.takeNozzle]

@[simp] theorem State.lift_frame (s : State) (f : Fp) (n : Nozzle) :
    (s.lift f n).pending = s.pending ∧ (s.lift f n).resetHeld = s.resetHeld ∧ (s.lift f n).pins = s.pins ∧
    (s.lift f n).clp = s.clp ∧ (s.lift f n).sus = s.sus := by
  simp only [State.lift]
  (repeat' split) <;> simp

@[simp] theorem State.noteHang_frame (s : State) (f : Fp) :
    (s.noteHang f).pending = s.pending ∧ (s.noteHang f).resetHeld = s.resetHeld ∧ (s.noteHang f).pins = s.pins ∧
    (s.noteHang f).clp = s.clp ∧ (s.noteHang f).nu = s.nu ∧ (s.noteHang f).miu = s.miu ∧
    (s.noteHang f).psg = s.psg ∧ (s.noteHang f).pru = s.pru ∧ (s.noteHang f).dbc = s.dbc ∧
    (s.noteHang f).riu = s.riu ∧ (s.noteHang f).sj = s.sj ∧ (s.noteHang f).sps = s.sps ∧
    (s.noteHang f).sus = s.sus := by
  simp [State.noteHang]

@[simp] theorem State.hang_frame (s : State) (f : Fp) (n : Nozzle) :
    (s.hang f n).pending = s.pending ∧ (s.hang f n).resetHeld = s.resetHeld ∧ (s.hang f n).pins = s.pins ∧
    (s.hang f n).clp = s.clp ∧ (s.hang f n).sus = s.sus := by
  simp only [State.hang]
  (repeat' split) <;> simp

@[simp] theorem State.panelReport_frame (s : State) (f : Fp) :
    (s.panelReport f).pending = s.pending ∧ (s.panelReport f).resetHeld = s.resetHeld ∧
    (s.panelReport f).pins = s.pins ∧ (s.panelReport f).clp = s.clp ∧ (s.panelReport f).sus = s.sus := by
  simp only [State.panelReport]
  (repeat' split) <;> simp

@[simp] theorem State.holdCheck_frame (s : State) (f : Fp) :
    (s.holdCheck f).pending = s.pending ∧ (s.holdCheck f).resetHeld = s.resetHeld ∧ (s.holdCheck f).pins = s.pins ∧
    (s.holdCheck f).clp = s.clp ∧ (s.holdCheck f).nu = s.nu ∧ (s.holdCheck f).miu = s.miu ∧
    (s.holdCheck f).psg = s.psg ∧ (s.holdCheck f).pru = s.pru ∧ (s.holdCheck f).dbc = s.dbc ∧
    (s.holdCheck f).riu = s.riu ∧ (s.holdCheck f).sps = s.sps ∧ (s.holdCheck f).sus = s.sus := by
  simp only [State.holdCheck]
  (repeat' split) <;> simp

@[simp] theorem State.endHold_frame (s : State) (f : Fp) :
    (s.endHold f).pending = s.pending ∧ (s.endHold f).resetHeld = s.resetHeld ∧ (s.endHold f).pins = s.pins ∧
    (s.endHold f).clp = s.clp ∧ (s.endHold f).nu = s.nu ∧ (s.endHold f).miu = s.miu ∧ (s.endHold f).psg = s.psg ∧
    (s.endHold f).riu = s.riu ∧ (s.endHold f).sj = s.sj ∧ (s.endHold f).sus = s.sus := by
  simp [State.endHold]

@[simp] theorem State.dropReaders_frame (s : State) (cause : DropCause) :
    (s.dropReaders cause).pending = s.pending ∧ (s.dropReaders cause).resetHeld = s.resetHeld ∧
    (s.dropReaders cause).pins = s.pins ∧ (s.dropReaders cause).clp = s.clp ∧ (s.dropReaders cause).miu = s.miu ∧
    (s.dropReaders cause).psg = s.psg ∧ (s.dropReaders cause).pru = s.pru ∧ (s.dropReaders cause).dbc = s.dbc ∧
    (s.dropReaders cause).sps = s.sps ∧ (s.dropReaders cause).sus = s.sus := by
  simp [State.dropReaders]

@[simp] theorem State.domainOff_frame (s : State) (dest : Domain) :
    (s.domainOff dest).pending = s.pending ∧ (s.domainOff dest).resetHeld = s.resetHeld ∧
    (s.domainOff dest).pins = s.pins ∧ (s.domainOff dest).clp = s.clp ∧ (s.domainOff dest).miu = s.miu ∧
    (s.domainOff dest).psg = s.psg ∧ (s.domainOff dest).pru = s.pru ∧ (s.domainOff dest).dbc = s.dbc ∧
    (s.domainOff dest).sus = s.sus := by
  simp [State.domainOff]

@[simp] theorem State.domainOn_frame (s : State) :
    s.domainOn.pending = s.pending ∧ s.domainOn.resetHeld = s.resetHeld ∧ s.domainOn.pins = s.pins ∧
    s.domainOn.clp = s.clp ∧ s.domainOn.nu = s.nu ∧ s.domainOn.miu = s.miu ∧ s.domainOn.fpc = s.fpc ∧
    s.domainOn.psg = s.psg ∧ s.domainOn.pru = s.pru ∧ s.domainOn.dbc = s.dbc ∧ s.domainOn.sj = s.sj ∧
    s.domainOn.sus = s.sus := by
  simp [State.domainOn]

@[simp] theorem State.autoCycle_frame (s : State) :
    s.autoCycle.pending = s.pending ∧ s.autoCycle.resetHeld = s.resetHeld ∧ s.autoCycle.pins = s.pins ∧
    s.autoCycle.clp = s.clp ∧ s.autoCycle.miu = s.miu ∧ s.autoCycle.psg = s.psg ∧ s.autoCycle.pru = s.pru ∧
    s.autoCycle.dbc = s.dbc ∧ s.autoCycle.sus = s.sus := by
  simp only [State.autoCycle]
  (repeat' split) <;> simp

@[simp] theorem State.fence_frame (s : State) :
    s.fence.pending = s.pending ∧ s.fence.resetHeld = s.resetHeld ∧ s.fence.pins = s.pins ∧ s.fence.clp = s.clp ∧
    s.fence.miu = s.miu ∧ s.fence.psg = s.psg ∧ s.fence.pru = s.pru ∧ s.fence.dbc = s.dbc ∧
    s.fence.sus = s.sus := by
  simp [State.fence]

@[simp] theorem State.linkTest_frame (s : State) :
    s.linkTest.pending = s.pending ∧ s.linkTest.resetHeld = s.resetHeld ∧ s.linkTest.pins = s.pins ∧
    s.linkTest.clp = s.clp ∧ s.linkTest.miu = s.miu ∧ s.linkTest.psg = s.psg ∧ s.linkTest.pru = s.pru ∧
    s.linkTest.dbc = s.dbc ∧ s.linkTest.sus = s.sus := by
  simp only [State.linkTest]
  (repeat' split) <;> simp

@[simp] theorem State.recovered_frame (s : State) :
    s.recovered.pending = s.pending ∧ s.recovered.resetHeld = s.resetHeld ∧ s.recovered.pins = s.pins ∧
    s.recovered.clp = s.clp ∧ s.recovered.miu = s.miu ∧ s.recovered.fpc = s.fpc ∧ s.recovered.psg = s.psg ∧
    s.recovered.pru = s.pru ∧ s.recovered.dbc = s.dbc ∧ s.recovered.sj = s.sj ∧ s.recovered.sps = s.sps ∧
    s.recovered.sus = s.sus := by
  simp only [State.recovered]
  (repeat' split) <;> simp

@[simp] theorem State.takeOutcome_frame (s : State) (o : ExchangeOutcome) :
    (s.takeOutcome o).pending = s.pending ∧ (s.takeOutcome o).resetHeld = s.resetHeld ∧
    (s.takeOutcome o).pins = s.pins ∧ (s.takeOutcome o).clp = s.clp ∧ (s.takeOutcome o).miu = s.miu ∧
    (s.takeOutcome o).psg = s.psg ∧ (s.takeOutcome o).pru = s.pru ∧ (s.takeOutcome o).dbc = s.dbc ∧
    (s.takeOutcome o).sus = s.sus := by
  simp only [State.takeOutcome]
  (repeat' split) <;> simp

@[simp] theorem State.textTest_frame (s : State) :
    s.textTest.pending = s.pending ∧ s.textTest.resetHeld = s.resetHeld ∧ s.textTest.pins = s.pins ∧
    s.textTest.clp = s.clp ∧ s.textTest.miu = s.miu ∧ s.textTest.psg = s.psg ∧ s.textTest.pru = s.pru ∧
    s.textTest.dbc = s.dbc ∧ s.textTest.sus = s.sus := by
  simp only [State.textTest]
  (repeat' split) <;> simp

@[simp] theorem State.badOutcome_frame (s : State) (o : ExchangeOutcome) :
    (s.badOutcome o).pending = s.pending ∧ (s.badOutcome o).resetHeld = s.resetHeld ∧
    (s.badOutcome o).pins = s.pins ∧ (s.badOutcome o).clp = s.clp ∧ (s.badOutcome o).miu = s.miu ∧
    (s.badOutcome o).psg = s.psg ∧ (s.badOutcome o).pru = s.pru ∧ (s.badOutcome o).dbc = s.dbc ∧
    (s.badOutcome o).sus = s.sus := by
  simp only [State.badOutcome]
  (repeat' split) <;> simp

@[simp] theorem State.sampleMeter_frame (s : State) (m : Meter) :
    (s.sampleMeter m).pending = s.pending ∧ (s.sampleMeter m).resetHeld = s.resetHeld ∧
    (s.sampleMeter m).pins = s.pins ∧ (s.sampleMeter m).clp = s.clp ∧ (s.sampleMeter m).nu = s.nu ∧
    (s.sampleMeter m).fpc = s.fpc ∧ (s.sampleMeter m).psg = s.psg ∧ (s.sampleMeter m).pru = s.pru ∧
    (s.sampleMeter m).dbc = s.dbc ∧ (s.sampleMeter m).riu = s.riu ∧ (s.sampleMeter m).sj = s.sj ∧
    (s.sampleMeter m).sps = s.sps ∧ (s.sampleMeter m).sus = s.sus := by
  simp [State.sampleMeter]

@[simp] theorem State.setPulser_frame (s : State) (on : Bool) :
    (s.setPulser on).pending = s.pending ∧ (s.setPulser on).resetHeld = s.resetHeld ∧
    (s.setPulser on).pins = s.pins ∧ (s.setPulser on).clp = s.clp ∧ (s.setPulser on).nu = s.nu ∧
    (s.setPulser on).fpc = s.fpc ∧ (s.setPulser on).psg = s.psg ∧ (s.setPulser on).pru = s.pru ∧
    (s.setPulser on).dbc = s.dbc ∧ (s.setPulser on).riu = s.riu ∧ (s.setPulser on).sj = s.sj ∧
    (s.setPulser on).sus = s.sus := by
  unfold State.setPulser
  split <;> simp [Meter.all]

@[simp] theorem State.setDisplayCauses_frame (s : State) :
    s.setDisplayCauses.pending = s.pending ∧ s.setDisplayCauses.resetHeld = s.resetHeld ∧
    s.setDisplayCauses.pins = s.pins ∧ s.setDisplayCauses.clp = s.clp ∧ s.setDisplayCauses.nu = s.nu ∧
    s.setDisplayCauses.miu = s.miu ∧ s.setDisplayCauses.psg = s.psg ∧ s.setDisplayCauses.riu = s.riu ∧
    s.setDisplayCauses.sj = s.sj ∧ s.setDisplayCauses.sps = s.sps ∧ s.setDisplayCauses.sus = s.sus := by
  simp [State.setDisplayCauses]

@[simp] theorem State.setDisplayOff_frame (s : State) :
    s.setDisplayOff.pending = s.pending ∧ s.setDisplayOff.resetHeld = s.resetHeld ∧ s.setDisplayOff.pins = s.pins ∧
    s.setDisplayOff.clp = s.clp ∧ s.setDisplayOff.nu = s.nu ∧ s.setDisplayOff.miu = s.miu ∧
    s.setDisplayOff.psg = s.psg ∧ s.setDisplayOff.riu = s.riu ∧ s.setDisplayOff.sj = s.sj ∧
    s.setDisplayOff.sus = s.sus := by
  simp only [State.setDisplayOff]
  (repeat' split) <;> simp

@[simp] theorem State.stage_frame (s : State) (st : Stage) (t : Timer) :
    (s.stage st t).pending = s.pending ∧ (s.stage st t).resetHeld = s.resetHeld ∧ (s.stage st t).pins = s.pins ∧
    (s.stage st t).clp = s.clp ∧ (s.stage st t).nu = s.nu ∧ (s.stage st t).miu = s.miu ∧
    (s.stage st t).fpc = s.fpc ∧ (s.stage st t).psg = s.psg ∧ (s.stage st t).pru = s.pru ∧
    (s.stage st t).dbc = s.dbc ∧ (s.stage st t).riu = s.riu ∧ (s.stage st t).sj = s.sj ∧
    (s.stage st t).sus = s.sus := by
  simp [State.stage]

@[simp] theorem State.enterW5_frame (s : State) :
    s.enterW5.pending = s.pending ∧ s.enterW5.resetHeld = s.resetHeld ∧ s.enterW5.pins = s.pins ∧
    s.enterW5.clp = s.clp ∧ s.enterW5.nu = s.nu ∧ s.enterW5.miu = s.miu ∧ s.enterW5.fpc = s.fpc ∧
    s.enterW5.psg = s.psg ∧ s.enterW5.pru = s.pru ∧ s.enterW5.dbc = s.dbc ∧ s.enterW5.sj = s.sj ∧
    s.enterW5.sus = s.sus := by
  simp only [State.enterW5]
  (repeat' split) <;> simp

@[simp] theorem State.clearWatch_frame (s : State) :
    s.clearWatch.pending = s.pending ∧ s.clearWatch.resetHeld = s.resetHeld ∧ s.clearWatch.pins = s.pins ∧
    s.clearWatch.clp = s.clp ∧ s.clearWatch.nu = s.nu ∧ s.clearWatch.fpc = s.fpc ∧ s.clearWatch.psg = s.psg ∧
    s.clearWatch.pru = s.pru ∧ s.clearWatch.dbc = s.dbc ∧ s.clearWatch.riu = s.riu ∧ s.clearWatch.sj = s.sj ∧
    s.clearWatch.sps = s.sps ∧ s.clearWatch.sus = s.sus := by
  simp [State.clearWatch]

@[simp] theorem State.enterW4_frame (s : State) :
    s.enterW4.pending = s.pending ∧ s.enterW4.resetHeld = s.resetHeld ∧ s.enterW4.pins = s.pins ∧
    s.enterW4.clp = s.clp ∧ s.enterW4.nu = s.nu ∧ s.enterW4.fpc = s.fpc ∧ s.enterW4.psg = s.psg ∧
    s.enterW4.pru = s.pru ∧ s.enterW4.dbc = s.dbc ∧ s.enterW4.riu = s.riu ∧ s.enterW4.sj = s.sj ∧
    s.enterW4.sus = s.sus := by
  simp [State.enterW4]

@[simp] theorem State.testAll_frame (s : State) :
    s.testAll.pending = s.pending ∧ s.testAll.resetHeld = s.resetHeld ∧ s.testAll.pins = s.pins ∧
    s.testAll.clp = s.clp ∧ s.testAll.nu = s.nu ∧ s.testAll.miu = s.miu ∧ s.testAll.fpc = s.fpc ∧
    s.testAll.psg = s.psg ∧ s.testAll.riu = s.riu ∧ s.testAll.sj = s.sj ∧ s.testAll.sus = s.sus := by
  simp [State.testAll, ModuleId.all]

@[simp] theorem State.enterW3_frame (s : State) :
    s.enterW3.pending = s.pending ∧ s.enterW3.resetHeld = s.resetHeld ∧ s.enterW3.pins = s.pins ∧
    s.enterW3.clp = s.clp ∧ s.enterW3.nu = s.nu ∧ s.enterW3.fpc = s.fpc ∧ s.enterW3.psg = s.psg ∧
    s.enterW3.riu = s.riu ∧ s.enterW3.sj = s.sj ∧ s.enterW3.sus = s.sus := by
  simp only [State.enterW3]
  (repeat' split) <;> simp

@[simp] theorem State.enterW2_frame (s : State) :
    s.enterW2.pending = s.pending ∧ s.enterW2.resetHeld = s.resetHeld ∧ s.enterW2.pins = s.pins ∧
    s.enterW2.clp = s.clp ∧ s.enterW2.nu = s.nu ∧ s.enterW2.fpc = s.fpc ∧ s.enterW2.psg = s.psg ∧
    s.enterW2.riu = s.riu ∧ s.enterW2.sj = s.sj ∧ s.enterW2.sus = s.sus := by
  simp only [State.enterW2]
  (repeat' split) <;> simp

@[simp] theorem State.enterW1_frame (s : State) :
    s.enterW1.pending = s.pending ∧ s.enterW1.resetHeld = s.resetHeld ∧ s.enterW1.pins = s.pins ∧
    s.enterW1.clp = s.clp ∧ s.enterW1.nu = s.nu ∧ s.enterW1.fpc = s.fpc ∧ s.enterW1.psg = s.psg ∧
    s.enterW1.riu = s.riu ∧ s.enterW1.sj = s.sj ∧ s.enterW1.sus = s.sus := by
  simp only [State.enterW1]
  (repeat' split) <;> simp

@[simp] theorem State.resumeW1_frame (s : State) :
    s.resumeW1.pending = s.pending ∧ s.resumeW1.resetHeld = s.resetHeld ∧ s.resumeW1.pins = s.pins ∧
    s.resumeW1.clp = s.clp ∧ s.resumeW1.nu = s.nu ∧ s.resumeW1.fpc = s.fpc ∧ s.resumeW1.psg = s.psg ∧
    s.resumeW1.riu = s.riu ∧ s.resumeW1.sj = s.sj ∧ s.resumeW1.sus = s.sus := by
  simp only [State.resumeW1]
  (repeat' split) <;> simp

@[simp] theorem State.freezeWaking_frame (s : State) :
    s.freezeWaking.pending = s.pending ∧ s.freezeWaking.resetHeld = s.resetHeld ∧ s.freezeWaking.pins = s.pins ∧
    s.freezeWaking.clp = s.clp ∧ s.freezeWaking.nu = s.nu ∧ s.freezeWaking.miu = s.miu ∧
    s.freezeWaking.fpc = s.fpc ∧ s.freezeWaking.psg = s.psg ∧ s.freezeWaking.pru = s.pru ∧
    s.freezeWaking.dbc = s.dbc ∧ s.freezeWaking.riu = s.riu ∧ s.freezeWaking.sj = s.sj ∧
    s.freezeWaking.sus = s.sus := by
  simp [State.freezeWaking]

@[simp] theorem State.enterWaking_frame (s : State) :
    s.enterWaking.pending = s.pending ∧ s.enterWaking.resetHeld = s.resetHeld ∧ s.enterWaking.pins = s.pins ∧
    s.enterWaking.clp = s.clp ∧ s.enterWaking.fpc = s.fpc ∧ s.enterWaking.psg = s.psg ∧ s.enterWaking.riu = s.riu ∧
    s.enterWaking.sj = s.sj ∧ s.enterWaking.sus = s.sus := by
  simp only [State.enterWaking]
  (repeat' split) <;> simp

@[simp] theorem State.enterNight_frame (s : State) :
    s.enterNight.pending = s.pending ∧ s.enterNight.resetHeld = s.resetHeld ∧ s.enterNight.pins = s.pins ∧
    s.enterNight.clp = s.clp ∧ s.enterNight.fpc = s.fpc ∧ s.enterNight.psg = s.psg ∧ s.enterNight.riu = s.riu ∧
    s.enterNight.sj = s.sj ∧ s.enterNight.sus = s.sus := by
  simp only [State.enterNight]
  (repeat' split) <;> simp

@[simp] theorem State.enterS5_frame (s : State) :
    s.enterS5.pending = s.pending ∧ s.enterS5.resetHeld = s.resetHeld ∧ s.enterS5.pins = s.pins ∧
    s.enterS5.clp = s.clp ∧ s.enterS5.fpc = s.fpc ∧ s.enterS5.psg = s.psg ∧ s.enterS5.riu = s.riu ∧
    s.enterS5.sj = s.sj ∧ s.enterS5.sus = s.sus := by
  simp only [State.enterS5]
  (repeat' split) <;> simp

@[simp] theorem State.heaterOff_frame (s : State) :
    s.heaterOff.pending = s.pending ∧ s.heaterOff.resetHeld = s.resetHeld ∧ s.heaterOff.pins = s.pins ∧
    s.heaterOff.clp = s.clp ∧ s.heaterOff.nu = s.nu ∧ s.heaterOff.miu = s.miu ∧ s.heaterOff.fpc = s.fpc ∧
    s.heaterOff.psg = s.psg ∧ s.heaterOff.pru = s.pru ∧ s.heaterOff.dbc = s.dbc ∧ s.heaterOff.riu = s.riu ∧
    s.heaterOff.sj = s.sj ∧ s.heaterOff.sus = s.sus := by
  simp [State.heaterOff]

@[simp] theorem State.enterS4_frame (s : State) :
    s.enterS4.pending = s.pending ∧ s.enterS4.resetHeld = s.resetHeld ∧ s.enterS4.pins = s.pins ∧
    s.enterS4.clp = s.clp ∧ s.enterS4.psg = s.psg ∧ s.enterS4.riu = s.riu ∧ s.enterS4.sj = s.sj ∧
    s.enterS4.sus = s.sus := by
  simp only [State.enterS4]
  (repeat' split) <;> simp

@[simp] theorem State.enterS3_frame (s : State) :
    s.enterS3.pending = s.pending ∧ s.enterS3.resetHeld = s.resetHeld ∧ s.enterS3.pins = s.pins ∧
    s.enterS3.clp = s.clp ∧ s.enterS3.psg = s.psg ∧ s.enterS3.riu = s.riu ∧ s.enterS3.sj = s.sj ∧
    s.enterS3.sus = s.sus := by
  simp only [State.enterS3]
  (repeat' split) <;> simp

@[simp] theorem State.enterS2_frame (s : State) :
    s.enterS2.pending = s.pending ∧ s.enterS2.resetHeld = s.resetHeld ∧ s.enterS2.pins = s.pins ∧
    s.enterS2.clp = s.clp ∧ s.enterS2.psg = s.psg ∧ s.enterS2.sus = s.sus := by
  simp only [State.enterS2]
  (repeat' split) <;> simp

@[simp] theorem State.endRunningHold_frame (s : State) (f : Fp) :
    (s.endRunningHold f).pending = s.pending ∧ (s.endRunningHold f).resetHeld = s.resetHeld ∧
    (s.endRunningHold f).pins = s.pins ∧ (s.endRunningHold f).clp = s.clp ∧ (s.endRunningHold f).nu = s.nu ∧
    (s.endRunningHold f).miu = s.miu ∧ (s.endRunningHold f).psg = s.psg ∧ (s.endRunningHold f).riu = s.riu ∧
    (s.endRunningHold f).sj = s.sj ∧ (s.endRunningHold f).sus = s.sus := by
  simp only [State.endRunningHold]
  (repeat' split) <;> simp

@[simp] theorem State.endCold_frame (s : State) :
    s.endCold.pending = s.pending ∧ s.endCold.resetHeld = s.resetHeld ∧ s.endCold.pins = s.pins ∧
    s.endCold.clp = s.clp ∧ s.endCold.nu = s.nu ∧ s.endCold.miu = s.miu ∧ s.endCold.psg = s.psg ∧
    s.endCold.riu = s.riu ∧ s.endCold.sj = s.sj ∧ s.endCold.sus = s.sus := by
  simp [State.endCold]

@[simp] theorem State.enterShutting_frame (s : State) :
    s.enterShutting.pending = s.pending ∧ s.enterShutting.resetHeld = s.resetHeld ∧ s.enterShutting.pins = s.pins ∧
    s.enterShutting.clp = s.clp ∧ s.enterShutting.sus = s.sus := by
  simp only [State.enterShutting]
  (repeat' split) <;> simp

@[simp] theorem State.shuttingTest_frame (s : State) :
    s.shuttingTest.pending = s.pending ∧ s.shuttingTest.resetHeld = s.resetHeld ∧ s.shuttingTest.pins = s.pins ∧
    s.shuttingTest.clp = s.clp ∧ s.shuttingTest.sus = s.sus := by
  simp only [State.shuttingTest]
  (repeat' split) <;> simp

@[simp] theorem State.graceExpiry_frame (s : State) :
    s.graceExpiry.pending = s.pending ∧ s.graceExpiry.resetHeld = s.resetHeld ∧ s.graceExpiry.pins = s.pins ∧
    s.graceExpiry.clp = s.clp ∧ s.graceExpiry.miu = s.miu ∧ s.graceExpiry.sus = s.sus := by
  simp [State.graceExpiry]

@[simp] theorem State.enterClosing_frame (s : State) :
    s.enterClosing.pending = s.pending ∧ s.enterClosing.resetHeld = s.resetHeld ∧ s.enterClosing.pins = s.pins ∧
    s.enterClosing.clp = s.clp ∧ s.enterClosing.sus = s.sus := by
  simp only [State.enterClosing]
  (repeat' split) <;> simp

@[simp] theorem State.startHold_frame (s : State) (f : Fp) :
    (s.startHold f).pending = s.pending ∧ (s.startHold f).resetHeld = s.resetHeld ∧ (s.startHold f).pins = s.pins ∧
    (s.startHold f).clp = s.clp ∧ (s.startHold f).nu = s.nu ∧ (s.startHold f).miu = s.miu ∧
    (s.startHold f).psg = s.psg ∧ (s.startHold f).riu = s.riu ∧ (s.startHold f).sj = s.sj ∧
    (s.startHold f).sus = s.sus := by
  simp only [State.startHold]
  (repeat' split) <;> simp

@[simp] theorem State.firstOpen_frame (s : State) :
    s.firstOpen.pending = s.pending ∧ s.firstOpen.resetHeld = s.resetHeld ∧ s.firstOpen.pins = s.pins ∧
    s.firstOpen.clp = s.clp ∧ s.firstOpen.nu = s.nu ∧ s.firstOpen.miu = s.miu ∧ s.firstOpen.psg = s.psg ∧
    s.firstOpen.riu = s.riu ∧ s.firstOpen.sj = s.sj ∧ s.firstOpen.sus = s.sus := by
  simp only [State.firstOpen]
  (repeat' split) <;> simp

@[simp] theorem State.openFp_frame (s : State) (f : Fp) :
    (s.openFp f).pending = s.pending ∧ (s.openFp f).resetHeld = s.resetHeld ∧ (s.openFp f).pins = s.pins ∧
    (s.openFp f).clp = s.clp ∧ (s.openFp f).nu = s.nu ∧ (s.openFp f).miu = s.miu ∧ (s.openFp f).psg = s.psg ∧
    (s.openFp f).riu = s.riu ∧ (s.openFp f).sj = s.sj ∧ (s.openFp f).sps = s.sps ∧ (s.openFp f).sus = s.sus := by
  simp [State.openFp]

@[simp] theorem State.enterOpen_frame (s : State) :
    s.enterOpen.pending = s.pending ∧ s.enterOpen.resetHeld = s.resetHeld ∧ s.enterOpen.pins = s.pins ∧
    s.enterOpen.clp = s.clp ∧ s.enterOpen.sus = s.sus := by
  simp only [State.enterOpen]
  (repeat' split) <;> simp

@[simp] theorem State.compareWanted_frame (s : State) :
    s.compareWanted.pending = s.pending ∧ s.compareWanted.resetHeld = s.resetHeld ∧ s.compareWanted.pins = s.pins ∧
    s.compareWanted.clp = s.clp ∧ s.compareWanted.sus = s.sus := by
  simp only [State.compareWanted]
  (repeat' split) <;> simp

@[simp] theorem State.wantSite_frame (s : State) (wanted : Bool) :
    (s.wantSite wanted).pending = s.pending ∧ (s.wantSite wanted).resetHeld = s.resetHeld ∧
    (s.wantSite wanted).pins = s.pins ∧ (s.wantSite wanted).clp = s.clp ∧ (s.wantSite wanted).sus = s.sus := by
  simp [State.wantSite]

@[simp] theorem State.afterFp_frame (s before : State) :
    (s.afterFp before).pending = s.pending ∧ (s.afterFp before).resetHeld = s.resetHeld ∧
    (s.afterFp before).pins = s.pins ∧ (s.afterFp before).clp = s.clp ∧ (s.afterFp before).sus = s.sus := by
  simp only [State.afterFp]
  (repeat' split) <;> simp

@[simp] theorem State.warmUpOver_frame (s : State) :
    s.warmUpOver.pending = s.pending ∧ s.warmUpOver.resetHeld = s.resetHeld ∧ s.warmUpOver.pins = s.pins ∧
    s.warmUpOver.clp = s.clp ∧ s.warmUpOver.nu = s.nu ∧ s.warmUpOver.miu = s.miu ∧ s.warmUpOver.psg = s.psg ∧
    s.warmUpOver.riu = s.riu ∧ s.warmUpOver.sj = s.sj ∧ s.warmUpOver.sus = s.sus := by
  simp [State.warmUpOver]

@[simp] theorem State.warmUpTest_frame (s : State) :
    s.warmUpTest.pending = s.pending ∧ s.warmUpTest.resetHeld = s.resetHeld ∧ s.warmUpTest.pins = s.pins ∧
    s.warmUpTest.clp = s.clp ∧ s.warmUpTest.nu = s.nu ∧ s.warmUpTest.miu = s.miu ∧ s.warmUpTest.psg = s.psg ∧
    s.warmUpTest.riu = s.riu ∧ s.warmUpTest.sj = s.sj ∧ s.warmUpTest.sus = s.sus := by
  simp only [State.warmUpTest]
  (repeat' split) <;> simp

@[simp] theorem State.warmUpBegin_frame (s : State) :
    s.warmUpBegin.pending = s.pending ∧ s.warmUpBegin.resetHeld = s.resetHeld ∧ s.warmUpBegin.pins = s.pins ∧
    s.warmUpBegin.clp = s.clp ∧ s.warmUpBegin.nu = s.nu ∧ s.warmUpBegin.miu = s.miu ∧ s.warmUpBegin.fpc = s.fpc ∧
    s.warmUpBegin.psg = s.psg ∧ s.warmUpBegin.pru = s.pru ∧ s.warmUpBegin.dbc = s.dbc ∧ s.warmUpBegin.riu = s.riu ∧
    s.warmUpBegin.sj = s.sj ∧ s.warmUpBegin.sus = s.sus := by
  simp [State.warmUpBegin]

@[simp] theorem State.testsReported_frame (s : State) :
    s.testsReported.pending = s.pending ∧ s.testsReported.resetHeld = s.resetHeld ∧ s.testsReported.pins = s.pins ∧
    s.testsReported.clp = s.clp ∧ s.testsReported.nu = s.nu ∧ s.testsReported.psg = s.psg ∧
    s.testsReported.riu = s.riu ∧ s.testsReported.sj = s.sj ∧ s.testsReported.sus = s.sus := by
  simp only [State.testsReported]
  (repeat' split) <;> simp

@[simp] theorem State.testOutcome_frame (s : State) (m : ModuleId) :
    (s.testOutcome m).pending = s.pending ∧ (s.testOutcome m).resetHeld = s.resetHeld ∧
    (s.testOutcome m).pins = s.pins ∧ (s.testOutcome m).clp = s.clp ∧ (s.testOutcome m).nu = s.nu ∧
    (s.testOutcome m).psg = s.psg ∧ (s.testOutcome m).riu = s.riu ∧ (s.testOutcome m).sj = s.sj ∧
    (s.testOutcome m).sus = s.sus := by
  simp only [State.testOutcome]
  (repeat' split) <;> simp

@[simp] theorem State.heatDone_frame (s : State) :
    s.heatDone.pending = s.pending ∧ s.heatDone.resetHeld = s.resetHeld ∧ s.heatDone.pins = s.pins ∧
    s.heatDone.clp = s.clp ∧ s.heatDone.nu = s.nu ∧ s.heatDone.miu = s.miu ∧ s.heatDone.fpc = s.fpc ∧
    s.heatDone.psg = s.psg ∧ s.heatDone.pru = s.pru ∧ s.heatDone.dbc = s.dbc ∧ s.heatDone.riu = s.riu ∧
    s.heatDone.sj = s.sj ∧ s.heatDone.sus = s.sus := by
  simp [State.heatDone]

@[simp] theorem State.heatLimitReached_frame (s : State) :
    s.heatLimitReached.pending = s.pending ∧ s.heatLimitReached.resetHeld = s.resetHeld ∧
    s.heatLimitReached.pins = s.pins ∧ s.heatLimitReached.clp = s.clp ∧ s.heatLimitReached.miu = s.miu ∧
    s.heatLimitReached.psg = s.psg ∧ s.heatLimitReached.pru = s.pru ∧ s.heatLimitReached.dbc = s.dbc ∧
    s.heatLimitReached.riu = s.riu ∧ s.heatLimitReached.sj = s.sj ∧ s.heatLimitReached.sus = s.sus := by
  simp [State.heatLimitReached]

@[simp] theorem State.w1Over_frame (s : State) :
    s.w1Over.pending = s.pending ∧ s.w1Over.resetHeld = s.resetHeld ∧ s.w1Over.pins = s.pins ∧
    s.w1Over.clp = s.clp ∧ s.w1Over.nu = s.nu ∧ s.w1Over.fpc = s.fpc ∧ s.w1Over.psg = s.psg ∧
    s.w1Over.riu = s.riu ∧ s.w1Over.sj = s.sj ∧ s.w1Over.sus = s.sus := by
  simp only [State.w1Over]
  (repeat' split) <;> simp

@[simp] theorem State.freeze_frame (s : State) :
    s.freeze.pending = s.pending ∧ s.freeze.resetHeld = s.resetHeld ∧ s.freeze.pins = s.pins ∧
    s.freeze.clp = s.clp ∧ s.freeze.miu = s.miu ∧ s.freeze.sus = s.sus := by
  simp [State.freeze]

@[simp] theorem State.unfreeze_frame (s : State) (from_ : FrozenFrom) (at_ : ResumeStage) :
    (s.unfreeze from_ at_).pending = s.pending ∧ (s.unfreeze from_ at_).resetHeld = s.resetHeld ∧
    (s.unfreeze from_ at_).pins = s.pins ∧ (s.unfreeze from_ at_).clp = s.clp ∧
    (s.unfreeze from_ at_).sus = s.sus := by
  simp only [State.unfreeze]
  (repeat' split) <;> simp

@[simp] theorem State.dip_frame (s : State) :
    s.dip.pending = s.pending ∧ s.dip.resetHeld = s.resetHeld ∧ s.dip.pins = s.pins ∧ s.dip.clp = s.clp ∧
    s.dip.sus = s.sus := by
  simp [State.dip]

@[simp] theorem State.scheduledStep_frame (s : State) (before : Stamp) :
    (s.scheduledStep before).pending = s.pending ∧ (s.scheduledStep before).resetHeld = s.resetHeld ∧
    (s.scheduledStep before).pins = s.pins ∧ (s.scheduledStep before).clp = s.clp ∧
    (s.scheduledStep before).sus = s.sus := by
  simp only [State.scheduledStep]
  (repeat' split) <;> simp

@[simp] theorem State.recordSample_frame (s : State) (m : Meter) (interval : Option Nat) (phase : Nat) :
    (s.recordSample m interval phase).pending = s.pending ∧
    (s.recordSample m interval phase).resetHeld = s.resetHeld ∧ (s.recordSample m interval phase).pins = s.pins ∧
    (s.recordSample m interval phase).clp = s.clp ∧ (s.recordSample m interval phase).fpc = s.fpc ∧
    (s.recordSample m interval phase).psg = s.psg ∧ (s.recordSample m interval phase).pru = s.pru ∧
    (s.recordSample m interval phase).dbc = s.dbc ∧ (s.recordSample m interval phase).riu = s.riu ∧
    (s.recordSample m interval phase).sj = s.sj ∧ (s.recordSample m interval phase).sps = s.sps ∧
    (s.recordSample m interval phase).sus = s.sus := by
  simp only [State.recordSample]
  (repeat' split) <;> simp

@[simp] theorem State.auditPulse_frame (s : State) (m : Meter) (interval : Option Nat) (phase : Nat) :
    (s.auditPulse m interval phase).pending = s.pending ∧ (s.auditPulse m interval phase).resetHeld = s.resetHeld ∧
    (s.auditPulse m interval phase).pins = s.pins ∧ (s.auditPulse m interval phase).clp = s.clp ∧
    (s.auditPulse m interval phase).fpc = s.fpc ∧ (s.auditPulse m interval phase).psg = s.psg ∧
    (s.auditPulse m interval phase).pru = s.pru ∧ (s.auditPulse m interval phase).dbc = s.dbc ∧
    (s.auditPulse m interval phase).riu = s.riu ∧ (s.auditPulse m interval phase).sj = s.sj ∧
    (s.auditPulse m interval phase).sps = s.sps ∧ (s.auditPulse m interval phase).sus = s.sus := by
  simp only [State.auditPulse]
  (repeat' split) <;> simp

@[simp] theorem State.creep_frame (s : State) (m : Meter) (cf : Nat) :
    (s.creep m cf).pending = s.pending ∧ (s.creep m cf).resetHeld = s.resetHeld ∧ (s.creep m cf).pins = s.pins ∧
    (s.creep m cf).clp = s.clp ∧ (s.creep m cf).fpc = s.fpc ∧ (s.creep m cf).psg = s.psg ∧
    (s.creep m cf).pru = s.pru ∧ (s.creep m cf).dbc = s.dbc ∧ (s.creep m cf).riu = s.riu ∧
    (s.creep m cf).sj = s.sj ∧ (s.creep m cf).sps = s.sps ∧ (s.creep m cf).sus = s.sus := by
  simp only [State.creep]
  (repeat' split) <;> simp

@[simp] theorem State.watchPulse_frame (s : State) (m : Meter) :
    (s.watchPulse m).pending = s.pending ∧ (s.watchPulse m).resetHeld = s.resetHeld ∧
    (s.watchPulse m).pins = s.pins ∧ (s.watchPulse m).clp = s.clp ∧ (s.watchPulse m).fpc = s.fpc ∧
    (s.watchPulse m).psg = s.psg ∧ (s.watchPulse m).pru = s.pru ∧ (s.watchPulse m).dbc = s.dbc ∧
    (s.watchPulse m).riu = s.riu ∧ (s.watchPulse m).sj = s.sj ∧ (s.watchPulse m).sps = s.sps ∧
    (s.watchPulse m).sus = s.sus := by
  simp only [State.watchPulse]
  (repeat' split) <;> simp

@[simp] theorem State.credit_frame (s : State) (m : Meter) (interval : Option Nat) (phase : Nat) :
    (s.credit m interval phase).pending = s.pending ∧ (s.credit m interval phase).resetHeld = s.resetHeld ∧
    (s.credit m interval phase).pins = s.pins ∧ (s.credit m interval phase).clp = s.clp ∧
    (s.credit m interval phase).psg = s.psg ∧ (s.credit m interval phase).riu = s.riu ∧
    (s.credit m interval phase).sps = s.sps ∧ (s.credit m interval phase).sus = s.sus := by
  simp only [State.credit]
  (repeat' split) <;> simp

@[simp] theorem State.faultMeter_frame (s : State) (m : Meter) (cause : MeterCause) :
    (s.faultMeter m cause).pending = s.pending ∧ (s.faultMeter m cause).resetHeld = s.resetHeld ∧
    (s.faultMeter m cause).pins = s.pins ∧ (s.faultMeter m cause).clp = s.clp ∧
    (s.faultMeter m cause).sps = s.sps ∧ (s.faultMeter m cause).sus = s.sus := by
  simp only [State.faultMeter]
  (repeat' split) <;> simp

@[simp] theorem State.forwardPulse_frame (s : State) (m : Meter) :
    (s.forwardPulse m).pending = s.pending ∧ (s.forwardPulse m).resetHeld = s.resetHeld ∧
    (s.forwardPulse m).pins = s.pins ∧ (s.forwardPulse m).clp = s.clp ∧ (s.forwardPulse m).psg = s.psg ∧
    (s.forwardPulse m).riu = s.riu ∧ (s.forwardPulse m).sps = s.sps ∧ (s.forwardPulse m).sus = s.sus := by
  simp only [State.forwardPulse]
  (repeat' split) <;> simp

@[simp] theorem State.reversePulse_frame (s : State) (m : Meter) :
    (s.reversePulse m).pending = s.pending ∧ (s.reversePulse m).resetHeld = s.resetHeld ∧
    (s.reversePulse m).pins = s.pins ∧ (s.reversePulse m).clp = s.clp ∧ (s.reversePulse m).sps = s.sps ∧
    (s.reversePulse m).sus = s.sus := by
  simp only [State.reversePulse]
  (repeat' split) <;> simp

@[simp] theorem State.decidePulse_frame (s : State) (m : Meter) :
    (s.decidePulse m).pending = s.pending ∧ (s.decidePulse m).resetHeld = s.resetHeld ∧
    (s.decidePulse m).pins = s.pins ∧ (s.decidePulse m).clp = s.clp ∧ (s.decidePulse m).sps = s.sps ∧
    (s.decidePulse m).sus = s.sus := by
  simp only [State.decidePulse]
  (repeat' split) <;> simp

@[simp] theorem State.decodeEdge_frame (s : State) (m : Meter) (i : Channel) (rising : Bool) :
    (s.decodeEdge m i rising).pending = s.pending ∧ (s.decodeEdge m i rising).resetHeld = s.resetHeld ∧
    (s.decodeEdge m i rising).pins = s.pins ∧ (s.decodeEdge m i rising).clp = s.clp ∧
    (s.decodeEdge m i rising).sps = s.sps ∧ (s.decodeEdge m i rising).sus = s.sus := by
  simp only [State.decodeEdge]
  (repeat' split) <;> simp

@[simp] theorem State.edge_frame (s : State) (m : Meter) (i : Channel) (level : Bool) :
    (s.edge m i level).pending = s.pending ∧ (s.edge m i level).resetHeld = s.resetHeld ∧
    (s.edge m i level).pins = s.pins ∧ (s.edge m i level).clp = s.clp ∧ (s.edge m i level).sps = s.sps ∧
    (s.edge m i level).sus = s.sus := by
  simp only [State.edge]
  (repeat' split) <;> simp

@[simp] theorem State.inputEdge_frame (s : State) (m : Meter) (i : Channel) (level : Bool) :
    (s.inputEdge m i level).pending = s.pending ∧ (s.inputEdge m i level).resetHeld = s.resetHeld ∧
    (s.inputEdge m i level).pins = s.pins ∧ (s.inputEdge m i level).clp = s.clp ∧
    (s.inputEdge m i level).sps = s.sps ∧ (s.inputEdge m i level).sus = s.sus := by
  simp only [State.inputEdge]
  (repeat' split) <;> simp

@[simp] theorem State.nozzleTaken_frame (s : State) (f : Fp) (n : Nozzle) (up : Bool) :
    (s.nozzleTaken f n up).pending = s.pending ∧ (s.nozzleTaken f n up).resetHeld = s.resetHeld ∧
    (s.nozzleTaken f n up).clp = s.clp ∧ (s.nozzleTaken f n up).sus = s.sus := by
  simp only [State.nozzleTaken]
  (repeat' split) <;> simp

@[simp] theorem State.authExpired_frame (s : State) (f : Fp) :
    (s.authExpired f).pending = s.pending ∧ (s.authExpired f).resetHeld = s.resetHeld ∧
    (s.authExpired f).pins = s.pins ∧ (s.authExpired f).clp = s.clp ∧ (s.authExpired f).miu = s.miu ∧
    (s.authExpired f).psg = s.psg ∧ (s.authExpired f).pru = s.pru ∧ (s.authExpired f).dbc = s.dbc ∧
    (s.authExpired f).sps = s.sps ∧ (s.authExpired f).sus = s.sus := by
  simp only [State.authExpired]
  (repeat' split) <;> simp

@[simp] theorem State.noFlow_frame (s : State) (f : Fp) :
    (s.noFlow f).pending = s.pending ∧ (s.noFlow f).resetHeld = s.resetHeld ∧ (s.noFlow f).pins = s.pins ∧
    (s.noFlow f).clp = s.clp ∧ (s.noFlow f).nu = s.nu ∧ (s.noFlow f).miu = s.miu ∧ (s.noFlow f).psg = s.psg ∧
    (s.noFlow f).pru = s.pru ∧ (s.noFlow f).dbc = s.dbc ∧ (s.noFlow f).riu = s.riu ∧ (s.noFlow f).sj = s.sj ∧
    (s.noFlow f).sps = s.sps ∧ (s.noFlow f).sus = s.sus := by
  simp only [State.noFlow]
  (repeat' split) <;> simp

@[simp] theorem State.runOutExpired_frame (s : State) (f : Fp) :
    (s.runOutExpired f).pending = s.pending ∧ (s.runOutExpired f).resetHeld = s.resetHeld ∧
    (s.runOutExpired f).pins = s.pins ∧ (s.runOutExpired f).clp = s.clp ∧ (s.runOutExpired f).miu = s.miu ∧
    (s.runOutExpired f).sps = s.sps ∧ (s.runOutExpired f).sus = s.sus := by
  simp only [State.runOutExpired]
  (repeat' split) <;> simp

@[simp] theorem State.failPump_frame (s : State) (p : Pump) (cause : PumpCause) :
    (s.failPump p cause).pending = s.pending ∧ (s.failPump p cause).resetHeld = s.resetHeld ∧
    (s.failPump p cause).pins = s.pins ∧ (s.failPump p cause).clp = s.clp ∧ (s.failPump p cause).miu = s.miu ∧
    (s.failPump p cause).sps = s.sps ∧ (s.failPump p cause).sus = s.sus := by
  simp [State.failPump]

@[simp] theorem State.retestFueling_frame (s : State) :
    s.retestFueling.pending = s.pending ∧ s.retestFueling.resetHeld = s.resetHeld ∧ s.retestFueling.pins = s.pins ∧
    s.retestFueling.clp = s.clp ∧ s.retestFueling.miu = s.miu ∧ s.retestFueling.psg = s.psg ∧
    s.retestFueling.pru = s.pru ∧ s.retestFueling.riu = s.riu ∧ s.retestFueling.sj = s.sj ∧
    s.retestFueling.sps = s.sps ∧ s.retestFueling.sus = s.sus := by
  simp [State.retestFueling]

@[simp] theorem State.feedbackUp_frame (s : State) (p : Pump) :
    (s.feedbackUp p).pending = s.pending ∧ (s.feedbackUp p).resetHeld = s.resetHeld ∧
    (s.feedbackUp p).pins = s.pins ∧ (s.feedbackUp p).clp = s.clp ∧ (s.feedbackUp p).miu = s.miu ∧
    (s.feedbackUp p).pru = s.pru ∧ (s.feedbackUp p).riu = s.riu ∧ (s.feedbackUp p).sj = s.sj ∧
    (s.feedbackUp p).sps = s.sps ∧ (s.feedbackUp p).sus = s.sus := by
  simp only [State.feedbackUp]
  (repeat' split) <;> simp

@[simp] theorem State.feedbackDown_frame (s : State) (p : Pump) :
    (s.feedbackDown p).pending = s.pending ∧ (s.feedbackDown p).resetHeld = s.resetHeld ∧
    (s.feedbackDown p).pins = s.pins ∧ (s.feedbackDown p).clp = s.clp ∧ (s.feedbackDown p).miu = s.miu ∧
    (s.feedbackDown p).sps = s.sps ∧ (s.feedbackDown p).sus = s.sus := by
  simp only [State.feedbackDown]
  (repeat' split) <;> simp

@[simp] theorem State.feedbackExpired_frame (s : State) (p : Pump) :
    (s.feedbackExpired p).pending = s.pending ∧ (s.feedbackExpired p).resetHeld = s.resetHeld ∧
    (s.feedbackExpired p).pins = s.pins ∧ (s.feedbackExpired p).clp = s.clp ∧ (s.feedbackExpired p).miu = s.miu ∧
    (s.feedbackExpired p).sps = s.sps ∧ (s.feedbackExpired p).sus = s.sus := by
  simp only [State.feedbackExpired]
  (repeat' split) <;> simp

@[simp] theorem State.primed_frame (s : State) (p : Pump) :
    (s.primed p).pending = s.pending ∧ (s.primed p).resetHeld = s.resetHeld ∧ (s.primed p).pins = s.pins ∧
    (s.primed p).clp = s.clp ∧ (s.primed p).miu = s.miu ∧ (s.primed p).pru = s.pru ∧ (s.primed p).riu = s.riu ∧
    (s.primed p).sj = s.sj ∧ (s.primed p).sps = s.sps ∧ (s.primed p).sus = s.sus := by
  simp only [State.primed]
  (repeat' split) <;> simp

@[simp] theorem State.runOnOver_frame (s : State) (p : Pump) :
    (s.runOnOver p).pending = s.pending ∧ (s.runOnOver p).resetHeld = s.resetHeld ∧ (s.runOnOver p).pins = s.pins ∧
    (s.runOnOver p).clp = s.clp ∧ (s.runOnOver p).nu = s.nu ∧ (s.runOnOver p).miu = s.miu ∧
    (s.runOnOver p).fpc = s.fpc ∧ (s.runOnOver p).pru = s.pru ∧ (s.runOnOver p).dbc = s.dbc ∧
    (s.runOnOver p).riu = s.riu ∧ (s.runOnOver p).sj = s.sj ∧ (s.runOnOver p).sps = s.sps ∧
    (s.runOnOver p).sus = s.sus := by
  simp only [State.runOnOver]
  (repeat' split) <;> simp

@[simp] theorem State.timeDriven_frame (s : State) (before : Stamp) :
    (s.timeDriven before).pending = s.pending ∧ (s.timeDriven before).resetHeld = s.resetHeld ∧
    (s.timeDriven before).pins = s.pins ∧ (s.timeDriven before).clp = s.clp := by
  simp [State.timeDriven]

@[simp] theorem State.settleOver_frame (s : State) :
    s.settleOver.pending = s.pending ∧ s.settleOver.resetHeld = s.resetHeld ∧ s.settleOver.pins = s.pins ∧
    s.settleOver.clp = s.clp ∧ s.settleOver.sus = s.sus := by
  simp only [State.settleOver]
  (repeat' split) <;> simp

@[simp] theorem State.reading_frame (s : State) (celsius : Int) :
    (s.reading celsius).pending = s.pending ∧ (s.reading celsius).resetHeld = s.resetHeld ∧
    (s.reading celsius).pins = s.pins ∧ (s.reading celsius).clp = s.clp ∧ (s.reading celsius).nu = s.nu ∧
    (s.reading celsius).fpc = s.fpc ∧ (s.reading celsius).psg = s.psg ∧ (s.reading celsius).riu = s.riu ∧
    (s.reading celsius).sj = s.sj ∧ (s.reading celsius).sus = s.sus := by
  simp only [State.reading]
  (repeat' split) <;> simp

@[simp] theorem State.powerWarned_frame (s : State) :
    s.powerWarned.pending = s.pending ∧ s.powerWarned.resetHeld = s.resetHeld ∧ s.powerWarned.pins = s.pins ∧
    s.powerWarned.clp = s.clp ∧ s.powerWarned.miu = s.miu ∧ s.powerWarned.sus = s.sus := by
  simp only [State.powerWarned]
  (repeat' split) <;> simp

@[simp] theorem State.powerBack_frame (s : State) :
    s.powerBack.pending = s.pending ∧ s.powerBack.resetHeld = s.resetHeld ∧ s.powerBack.pins = s.pins ∧
    s.powerBack.clp = s.clp ∧ s.powerBack.sus = s.sus := by
  simp only [State.powerBack]
  (repeat' split) <;> simp

@[simp] theorem State.watchFeedback_frame (s : State) (p : Pump) :
    (s.watchFeedback p).pending = s.pending ∧ (s.watchFeedback p).resetHeld = s.resetHeld ∧
    (s.watchFeedback p).pins = s.pins ∧ (s.watchFeedback p).clp = s.clp ∧ (s.watchFeedback p).nu = s.nu ∧
    (s.watchFeedback p).miu = s.miu ∧ (s.watchFeedback p).fpc = s.fpc ∧ (s.watchFeedback p).pru = s.pru ∧
    (s.watchFeedback p).dbc = s.dbc ∧ (s.watchFeedback p).riu = s.riu ∧ (s.watchFeedback p).sj = s.sj ∧
    (s.watchFeedback p).sps = s.sps ∧ (s.watchFeedback p).sus = s.sus := by
  simp [State.watchFeedback]

@[simp] theorem State.loadAudit_frame (s : State) :
    s.loadAudit.pending = s.pending ∧ s.loadAudit.resetHeld = s.resetHeld ∧ s.loadAudit.pins = s.pins ∧
    s.loadAudit.clp = s.clp ∧ s.loadAudit.nu = s.nu ∧ s.loadAudit.fpc = s.fpc ∧ s.loadAudit.psg = s.psg ∧
    s.loadAudit.pru = s.pru ∧ s.loadAudit.dbc = s.dbc ∧ s.loadAudit.riu = s.riu ∧ s.loadAudit.sj = s.sj ∧
    s.loadAudit.sps = s.sps ∧ s.loadAudit.sus = s.sus := by
  simp [State.loadAudit]

@[simp] theorem State.takeAddress_frame (s : State) (m : ModuleId) :
    (s.takeAddress m).pending = s.pending ∧ (s.takeAddress m).resetHeld = s.resetHeld ∧
    (s.takeAddress m).pins = s.pins ∧ (s.takeAddress m).clp = s.clp ∧ (s.takeAddress m).nu = s.nu ∧
    (s.takeAddress m).miu = s.miu ∧ (s.takeAddress m).fpc = s.fpc ∧ (s.takeAddress m).psg = s.psg ∧
    (s.takeAddress m).pru = s.pru ∧ (s.takeAddress m).riu = s.riu ∧ (s.takeAddress m).sj = s.sj ∧
    (s.takeAddress m).sps = s.sps ∧ (s.takeAddress m).sus = s.sus := by
  simp [State.takeAddress]

@[simp] theorem State.handOut_frame (s : State) (x : StoredItems) :
    (s.handOut x).pending = s.pending ∧ (s.handOut x).resetHeld = s.resetHeld ∧ (s.handOut x).pins = s.pins ∧
    (s.handOut x).clp = s.clp ∧ (s.handOut x).nu = s.nu ∧ (s.handOut x).psg = s.psg ∧ (s.handOut x).sj = s.sj := by
  simp [State.handOut, ModuleId.all]

@[simp] theorem State.storeCheck_frame (s : State) :
    s.storeCheck.pending = s.pending ∧ s.storeCheck.resetHeld = s.resetHeld ∧ s.storeCheck.pins = s.pins ∧
    s.storeCheck.clp = s.clp ∧ s.storeCheck.psg = s.psg ∧ s.storeCheck.sj = s.sj := by
  simp only [State.storeCheck]
  (repeat' split) <;> simp

@[simp] theorem State.totalizerCheck_frame (s : State) :
    s.totalizerCheck.pending = s.pending ∧ s.totalizerCheck.resetHeld = s.resetHeld ∧
    s.totalizerCheck.pins = s.pins ∧ s.totalizerCheck.clp = s.clp ∧ s.totalizerCheck.miu = s.miu ∧
    s.totalizerCheck.psg = s.psg ∧ s.totalizerCheck.pru = s.pru ∧ s.totalizerCheck.dbc = s.dbc ∧
    s.totalizerCheck.riu = s.riu ∧ s.totalizerCheck.sps = s.sps ∧ s.totalizerCheck.sus = s.sus := by
  simp only [State.totalizerCheck]
  (repeat' split) <;> simp

@[simp] theorem State.showHold_frame (s : State) (f : Fp) :
    (s.showHold f).pending = s.pending ∧ (s.showHold f).resetHeld = s.resetHeld ∧ (s.showHold f).pins = s.pins ∧
    (s.showHold f).clp = s.clp ∧ (s.showHold f).nu = s.nu ∧ (s.showHold f).miu = s.miu ∧
    (s.showHold f).psg = s.psg ∧ (s.showHold f).riu = s.riu ∧ (s.showHold f).sj = s.sj ∧
    (s.showHold f).sps = s.sps ∧ (s.showHold f).sus = s.sus := by
  simp only [State.showHold]
  (repeat' split) <;> simp

@[simp] theorem State.recoveryNotices_frame (s : State) :
    s.recoveryNotices.pending = s.pending ∧ s.recoveryNotices.resetHeld = s.resetHeld ∧
    s.recoveryNotices.pins = s.pins ∧ s.recoveryNotices.clp = s.clp ∧ s.recoveryNotices.miu = s.miu ∧
    s.recoveryNotices.fpc = s.fpc ∧ s.recoveryNotices.psg = s.psg ∧ s.recoveryNotices.pru = s.pru ∧
    s.recoveryNotices.dbc = s.dbc ∧ s.recoveryNotices.riu = s.riu ∧ s.recoveryNotices.sj = s.sj ∧
    s.recoveryNotices.sps = { s.sps with warnedInRecovery := false } ∧ s.recoveryNotices.sus = s.sus := by
  simp only [State.recoveryNotices]
  (repeat' split) <;> simp

@[simp] theorem State.leaveRecovery_frame (s : State) :
    s.leaveRecovery.pending = s.pending ∧ s.leaveRecovery.resetHeld = s.resetHeld ∧ s.leaveRecovery.pins = s.pins ∧
    s.leaveRecovery.clp = s.clp ∧ s.leaveRecovery.fpc = s.fpc ∧ s.leaveRecovery.psg = s.psg ∧
    s.leaveRecovery.riu = s.riu ∧ s.leaveRecovery.sj = s.sj ∧ s.leaveRecovery.sus = s.sus := by
  simp only [State.leaveRecovery]
  (repeat' split) <;> simp

@[simp] theorem State.reject_frame (s : State) :
    s.reject.pending = s.pending ∧ s.reject.resetHeld = s.resetHeld ∧ s.reject.pins = s.pins ∧
    s.reject.clp = s.clp ∧ s.reject.nu = s.nu ∧ s.reject.miu = s.miu ∧ s.reject.fpc = s.fpc ∧
    s.reject.psg = s.psg ∧ s.reject.pru = s.pru ∧ s.reject.dbc = s.dbc ∧ s.reject.sj = s.sj ∧
    s.reject.sps = s.sps ∧ s.reject.sus = s.sus := by
  simp [State.reject]

@[simp] theorem State.judgeAuthReq_frame (fp : Byte) (token : Token) (kind : Byte) (value : BitVec 32) (level grades : Byte) (expiry : BitVec 16) (s : State) :
    (State.judgeAuthReq fp token kind value level grades expiry s).2.pending = s.pending ∧
    (State.judgeAuthReq fp token kind value level grades expiry s).2.resetHeld = s.resetHeld ∧
    (State.judgeAuthReq fp token kind value level grades expiry s).2.pins = s.pins ∧
    (State.judgeAuthReq fp token kind value level grades expiry s).2.clp = s.clp ∧
    (State.judgeAuthReq fp token kind value level grades expiry s).2.sus = s.sus := by
  simp only [State.judgeAuthReq]
  (repeat' split) <;> simp

@[simp] theorem State.readerCancelOwn_frame (s : State) (f : Fp) :
    (s.readerCancelOwn f).2.pending = s.pending ∧ (s.readerCancelOwn f).2.resetHeld = s.resetHeld ∧
    (s.readerCancelOwn f).2.pins = s.pins ∧ (s.readerCancelOwn f).2.clp = s.clp ∧
    (s.readerCancelOwn f).2.miu = s.miu ∧ (s.readerCancelOwn f).2.sps = s.sps ∧
    (s.readerCancelOwn f).2.sus = s.sus := by
  simp only [State.readerCancelOwn]
  (repeat' split) <;> simp

@[simp] theorem State.readerCancel_frame (s : State) (f : Fp) (token : Token) :
    (s.readerCancel f token).2.pending = s.pending ∧ (s.readerCancel f token).2.resetHeld = s.resetHeld ∧
    (s.readerCancel f token).2.pins = s.pins ∧ (s.readerCancel f token).2.clp = s.clp ∧
    (s.readerCancel f token).2.miu = s.miu ∧ (s.readerCancel f token).2.sps = s.sps ∧
    (s.readerCancel f token).2.sus = s.sus := by
  simp only [State.readerCancel]
  (repeat' split) <;> simp

@[simp] theorem State.judgeAuthCancel_frame (fp : Byte) (token : Token) (s : State) :
    (State.judgeAuthCancel fp token s).2.pending = s.pending ∧
    (State.judgeAuthCancel fp token s).2.resetHeld = s.resetHeld ∧
    (State.judgeAuthCancel fp token s).2.pins = s.pins ∧ (State.judgeAuthCancel fp token s).2.clp = s.clp ∧
    (State.judgeAuthCancel fp token s).2.miu = s.miu ∧ (State.judgeAuthCancel fp token s).2.sps = s.sps ∧
    (State.judgeAuthCancel fp token s).2.sus = s.sus := by
  simp only [State.judgeAuthCancel]
  (repeat' split) <;> simp

@[simp] theorem State.judgeSaleQuery_frame (fp : Byte) (s : State) :
    (State.judgeSaleQuery fp s).2.pending = s.pending ∧ (State.judgeSaleQuery fp s).2.resetHeld = s.resetHeld ∧
    (State.judgeSaleQuery fp s).2.pins = s.pins ∧ (State.judgeSaleQuery fp s).2.clp = s.clp ∧
    (State.judgeSaleQuery fp s).2.nu = s.nu ∧ (State.judgeSaleQuery fp s).2.miu = s.miu ∧
    (State.judgeSaleQuery fp s).2.fpc = s.fpc ∧ (State.judgeSaleQuery fp s).2.psg = s.psg ∧
    (State.judgeSaleQuery fp s).2.pru = s.pru ∧ (State.judgeSaleQuery fp s).2.dbc = s.dbc ∧
    (State.judgeSaleQuery fp s).2.riu = s.riu ∧ (State.judgeSaleQuery fp s).2.sj = s.sj ∧
    (State.judgeSaleQuery fp s).2.sps = s.sps ∧ (State.judgeSaleQuery fp s).2.sus = s.sus := by
  simp only [State.judgeSaleQuery]
  (repeat' split) <;> simp

@[simp] theorem State.judgeSettle_frame (fp : Byte) (seq : BitVec 32) (token : Token) (s : State) :
    (State.judgeSettle fp seq token s).2.pending = s.pending ∧
    (State.judgeSettle fp seq token s).2.resetHeld = s.resetHeld ∧
    (State.judgeSettle fp seq token s).2.pins = s.pins ∧ (State.judgeSettle fp seq token s).2.clp = s.clp ∧
    (State.judgeSettle fp seq token s).2.nu = s.nu ∧ (State.judgeSettle fp seq token s).2.miu = s.miu ∧
    (State.judgeSettle fp seq token s).2.fpc = s.fpc ∧ (State.judgeSettle fp seq token s).2.psg = s.psg ∧
    (State.judgeSettle fp seq token s).2.pru = s.pru ∧ (State.judgeSettle fp seq token s).2.dbc = s.dbc ∧
    (State.judgeSettle fp seq token s).2.riu = s.riu ∧ (State.judgeSettle fp seq token s).2.sps = s.sps ∧
    (State.judgeSettle fp seq token s).2.sus = s.sus := by
  simp only [State.judgeSettle]
  (repeat' split) <;> simp

@[simp] theorem State.takePrompt_frame (fp : Byte) (text : List Byte) (s : State) :
    (State.takePrompt fp text s).pending = s.pending ∧ (State.takePrompt fp text s).resetHeld = s.resetHeld ∧
    (State.takePrompt fp text s).pins = s.pins ∧ (State.takePrompt fp text s).clp = s.clp ∧
    (State.takePrompt fp text s).miu = s.miu ∧ (State.takePrompt fp text s).fpc = s.fpc ∧
    (State.takePrompt fp text s).psg = s.psg ∧ (State.takePrompt fp text s).pru = s.pru ∧
    (State.takePrompt fp text s).dbc = s.dbc ∧ (State.takePrompt fp text s).sj = s.sj ∧
    (State.takePrompt fp text s).sps = s.sps ∧ (State.takePrompt fp text s).sus = s.sus := by
  simp only [State.takePrompt]
  (repeat' split) <;> simp

@[simp] theorem State.takeTextAck_frame (number : Byte) (s : State) :
    (State.takeTextAck number s).pending = s.pending ∧ (State.takeTextAck number s).resetHeld = s.resetHeld ∧
    (State.takeTextAck number s).pins = s.pins ∧ (State.takeTextAck number s).clp = s.clp ∧
    (State.takeTextAck number s).nu = s.nu ∧ (State.takeTextAck number s).miu = s.miu ∧
    (State.takeTextAck number s).fpc = s.fpc ∧ (State.takeTextAck number s).psg = s.psg ∧
    (State.takeTextAck number s).pru = s.pru ∧ (State.takeTextAck number s).dbc = s.dbc ∧
    (State.takeTextAck number s).sj = s.sj ∧ (State.takeTextAck number s).sps = s.sps ∧
    (State.takeTextAck number s).sus = s.sus := by
  simp only [State.takeTextAck]
  (repeat' split) <;> simp

@[simp] theorem State.blankingTest_frame (s : State) :
    s.blankingTest.pending = s.pending ∧ s.blankingTest.resetHeld = s.resetHeld ∧ s.blankingTest.pins = s.pins ∧
    s.blankingTest.clp = s.clp ∧ s.blankingTest.psg = s.psg ∧ s.blankingTest.riu = s.riu ∧
    s.blankingTest.sj = s.sj ∧ s.blankingTest.sus = s.sus := by
  simp only [State.blankingTest]
  (repeat' split) <;> simp

@[simp] theorem State.recordDisplay_frame (s : State) (f : Fp) :
    (s.recordDisplay f).pending = s.pending ∧ (s.recordDisplay f).resetHeld = s.resetHeld ∧
    (s.recordDisplay f).pins = s.pins ∧ (s.recordDisplay f).clp = s.clp ∧ (s.recordDisplay f).nu = s.nu ∧
    (s.recordDisplay f).miu = s.miu ∧ (s.recordDisplay f).psg = s.psg ∧ (s.recordDisplay f).pru = s.pru ∧
    (s.recordDisplay f).dbc = s.dbc ∧ (s.recordDisplay f).riu = s.riu ∧ (s.recordDisplay f).sj = s.sj ∧
    (s.recordDisplay f).sps = s.sps ∧ (s.recordDisplay f).sus = s.sus := by
  simp [State.recordDisplay]

@[simp] theorem State.moduleFaultFp_frame (s : State) (m : ModuleId) :
    (s.moduleFaultFp m).pending = s.pending ∧ (s.moduleFaultFp m).resetHeld = s.resetHeld ∧
    (s.moduleFaultFp m).pins = s.pins ∧ (s.moduleFaultFp m).clp = s.clp ∧ (s.moduleFaultFp m).miu = s.miu ∧
    (s.moduleFaultFp m).sps = s.sps ∧ (s.moduleFaultFp m).sus = s.sus := by
  simp only [State.moduleFaultFp]
  (repeat' split) <;> simp

/-- What each step of a fold keeps, the fold keeps. -/
theorem foldl_keeps {α β γ : Type} {step : α → β → α} {proj : α → γ} (h : ∀ a b, proj (step a b) = proj a)
    (l : List β) (a : α) : proj (l.foldl step a) = proj a := by
  induction l generalizing a with
  | nil => rfl
  | cons b l ih => exact (ih (step a b)).trans (h a b)

@[simp] theorem State.setFailed_frame (s : State) (m : ModuleId) :
    (s.setFailed m).pending = s.pending ∧ (s.setFailed m).resetHeld = s.resetHeld ∧
    (s.setFailed m).pins = s.pins ∧ (s.setFailed m).clp = s.clp ∧ (s.setFailed m).nu = s.nu ∧
    (s.setFailed m).miu = s.miu ∧ (s.setFailed m).fpc = s.fpc ∧ (s.setFailed m).psg = s.psg ∧
    (s.setFailed m).riu = s.riu ∧ (s.setFailed m).sj = s.sj ∧ (s.setFailed m).sps = s.sps ∧
    (s.setFailed m).sus = s.sus := by
  simp [State.setFailed]

@[simp] theorem State.reportFailed_frame (s : State) (m : ModuleId) :
    (s.reportFailed m).pending = s.pending ∧ (s.reportFailed m).resetHeld = s.resetHeld ∧
    (s.reportFailed m).pins = s.pins ∧ (s.reportFailed m).clp = s.clp ∧ (s.reportFailed m).miu = s.miu ∧
    (s.reportFailed m).sps = s.sps ∧ (s.reportFailed m).sus = s.sus := by
  simp [State.reportFailed]

@[simp] theorem State.failTogether_frame (s : State) (ms : List ModuleId) :
    (s.failTogether ms).pending = s.pending ∧ (s.failTogether ms).resetHeld = s.resetHeld ∧
    (s.failTogether ms).pins = s.pins ∧ (s.failTogether ms).clp = s.clp ∧ (s.failTogether ms).miu = s.miu ∧
    (s.failTogether ms).sps = s.sps ∧ (s.failTogether ms).sus = s.sus := by
  simp only [State.failTogether]
  have keeps : ∀ {γ : Type} (proj : State → γ), (∀ t m, proj (State.setFailed t m) = proj t) →
      (∀ t m, proj (State.reportFailed t m) = proj t) →
      proj (ms.foldl State.reportFailed (ms.foldl State.setFailed s)) = proj s :=
    fun proj h1 h2 => (foldl_keeps h2 _ _).trans (foldl_keeps h1 _ _)
  refine ⟨keeps State.pending ?_ ?_, keeps State.resetHeld ?_ ?_, keeps State.pins ?_ ?_, keeps State.clp ?_ ?_,
    keeps State.miu ?_ ?_, keeps State.sps ?_ ?_, keeps State.sus ?_ ?_⟩ <;> simp

@[simp] theorem State.endTestsOf_frame (s before : State) (ms : List ModuleId) :
    (s.endTestsOf before ms).pending = s.pending ∧ (s.endTestsOf before ms).resetHeld = s.resetHeld ∧
    (s.endTestsOf before ms).pins = s.pins ∧ (s.endTestsOf before ms).clp = s.clp ∧
    (s.endTestsOf before ms).nu = s.nu ∧ (s.endTestsOf before ms).psg = s.psg ∧
    (s.endTestsOf before ms).riu = s.riu ∧ (s.endTestsOf before ms).sj = s.sj ∧
    (s.endTestsOf before ms).sus = s.sus := by
  simp only [State.endTestsOf]
  refine ⟨foldl_keeps (proj := State.pending) ?_ _ _, foldl_keeps (proj := State.resetHeld) ?_ _ _,
    foldl_keeps (proj := State.pins) ?_ _ _, foldl_keeps (proj := State.clp) ?_ _ _,
    foldl_keeps (proj := State.nu) ?_ _ _, foldl_keeps (proj := State.psg) ?_ _ _,
    foldl_keeps (proj := State.riu) ?_ _ _, foldl_keeps (proj := State.sj) ?_ _ _,
    foldl_keeps (proj := State.sus) ?_ _ _⟩ <;> (intro t m; split <;> simp)

@[simp] theorem State.failModule_frame (s : State) (m : ModuleId) :
    (s.failModule m).pending = s.pending ∧ (s.failModule m).resetHeld = s.resetHeld ∧
    (s.failModule m).pins = s.pins ∧ (s.failModule m).clp = s.clp ∧ (s.failModule m).sus = s.sus := by
  simp [State.failModule]

@[simp] theorem State.updateOver_frame (s : State) (m : ModuleId) :
    (s.updateOver m).pending = s.pending ∧ (s.updateOver m).resetHeld = s.resetHeld ∧
    (s.updateOver m).pins = s.pins ∧ (s.updateOver m).clp = s.clp ∧ (s.updateOver m).nu = s.nu ∧
    (s.updateOver m).miu = s.miu ∧ (s.updateOver m).fpc = s.fpc ∧ (s.updateOver m).psg = s.psg ∧
    (s.updateOver m).pru = s.pru ∧ (s.updateOver m).riu = s.riu ∧ (s.updateOver m).sj = s.sj ∧
    (s.updateOver m).sps = s.sps ∧ (s.updateOver m).sus = s.sus := by
  simp [State.updateOver]

@[simp] theorem State.advanceTest_frame (s : State) (m : ModuleId) :
    (s.advanceTest m).pending = s.pending ∧ (s.advanceTest m).resetHeld = s.resetHeld ∧
    (s.advanceTest m).pins = s.pins ∧ (s.advanceTest m).clp = s.clp ∧ (s.advanceTest m).nu = s.nu ∧
    (s.advanceTest m).psg = s.psg ∧ (s.advanceTest m).riu = s.riu ∧ (s.advanceTest m).sj = s.sj ∧
    (s.advanceTest m).sus = s.sus := by
  simp only [State.advanceTest]
  (repeat' split) <;> simp

@[simp] theorem State.reportVerified_frame (s : State) (m : ModuleId) :
    (s.reportVerified m).pending = s.pending ∧ (s.reportVerified m).resetHeld = s.resetHeld ∧
    (s.reportVerified m).pins = s.pins ∧ (s.reportVerified m).clp = s.clp ∧ (s.reportVerified m).sus = s.sus := by
  simp only [State.reportVerified]
  (repeat' split) <;> simp

@[simp] theorem State.checkSucceeded_frame (s : State) (u : Update) :
    (s.checkSucceeded u).pending = s.pending ∧ (s.checkSucceeded u).resetHeld = s.resetHeld ∧
    (s.checkSucceeded u).pins = s.pins ∧ (s.checkSucceeded u).clp = s.clp ∧ (s.checkSucceeded u).sus = s.sus := by
  simp [State.checkSucceeded]

@[simp] theorem State.tryFailed_frame (s : State) (u : Update) :
    (s.tryFailed u).pending = s.pending ∧ (s.tryFailed u).resetHeld = s.resetHeld ∧ (s.tryFailed u).pins = s.pins ∧
    (s.tryFailed u).clp = s.clp ∧ (s.tryFailed u).sus = s.sus := by
  simp only [State.tryFailed]
  (repeat' split) <;> simp

@[simp] theorem State.writeEnd_frame (s : State) (acked : Bool) :
    (s.writeEnd acked).pending = s.pending ∧ (s.writeEnd acked).resetHeld = s.resetHeld ∧
    (s.writeEnd acked).pins = s.pins ∧ (s.writeEnd acked).clp = s.clp ∧ (s.writeEnd acked).sus = s.sus := by
  simp only [State.writeEnd]
  (repeat' split) <;> simp

@[simp] theorem State.checkEnd_frame (s : State) (answer : Option (Byte × Byte)) :
    (s.checkEnd answer).pending = s.pending ∧ (s.checkEnd answer).resetHeld = s.resetHeld ∧
    (s.checkEnd answer).pins = s.pins ∧ (s.checkEnd answer).clp = s.clp ∧ (s.checkEnd answer).sus = s.sus := by
  simp only [State.checkEnd]
  (repeat' split) <;> simp

@[simp] theorem State.busError_frame (s : State) :
    s.busError.pending = s.pending ∧ s.busError.resetHeld = s.resetHeld ∧ s.busError.pins = s.pins ∧
    s.busError.clp = s.clp ∧ s.busError.nu = s.nu ∧ s.busError.miu = s.miu ∧ s.busError.fpc = s.fpc ∧
    s.busError.psg = s.psg ∧ s.busError.riu = s.riu ∧ s.busError.sj = s.sj ∧ s.busError.sps = s.sps ∧
    s.busError.sus = s.sus := by
  simp only [State.busError]
  (repeat' split) <;> simp

@[simp] theorem State.busStuck_frame (s : State) :
    s.busStuck.pending = s.pending ∧ s.busStuck.resetHeld = s.resetHeld ∧ s.busStuck.pins = s.pins ∧
    s.busStuck.clp = s.clp ∧ s.busStuck.sus = s.sus := by
  simp [State.busStuck]

@[simp] theorem State.attemptFailed_frame (s : State) :
    s.attemptFailed.pending = s.pending ∧ s.attemptFailed.resetHeld = s.resetHeld ∧ s.attemptFailed.pins = s.pins ∧
    s.attemptFailed.clp = s.clp ∧ s.attemptFailed.sus = s.sus := by
  simp [State.attemptFailed, State.leaveStage, ModuleId.all]

@[simp] theorem State.recoveryEnd_frame (s : State) (released : Bool) :
    (s.recoveryEnd released).pending = s.pending ∧ (s.recoveryEnd released).resetHeld = s.resetHeld ∧
    (s.recoveryEnd released).pins = s.pins ∧ (s.recoveryEnd released).clp = s.clp ∧
    (s.recoveryEnd released).sus = s.sus := by
  simp only [State.recoveryEnd]
  (repeat' split) <;> simp

@[simp] theorem State.fieldStale_frame (s : State) (f : Fp) (w : WatchedField) :
    (s.fieldStale f w).pending = s.pending ∧ (s.fieldStale f w).resetHeld = s.resetHeld ∧
    (s.fieldStale f w).pins = s.pins ∧ (s.fieldStale f w).clp = s.clp ∧ (s.fieldStale f w).miu = s.miu ∧
    (s.fieldStale f w).psg = s.psg ∧ (s.fieldStale f w).pru = s.pru ∧ (s.fieldStale f w).riu = s.riu ∧
    (s.fieldStale f w).sj = s.sj ∧ (s.fieldStale f w).sps = s.sps ∧ (s.fieldStale f w).sus = s.sus := by
  simp only [State.fieldStale]
  (repeat' split) <;> simp

@[simp] theorem State.reply_frame (s : State) (r : Result) (b : Body) :
    (s.reply r b).state.pending = s.pending ∧ (s.reply r b).state.resetHeld = s.resetHeld ∧
    (s.reply r b).state.pins = s.pins ∧ (s.reply r b).state.clp = s.clp ∧ (s.reply r b).state.nu = s.nu ∧
    (s.reply r b).state.miu = s.miu ∧ (s.reply r b).state.fpc = s.fpc ∧ (s.reply r b).state.psg = s.psg ∧
    (s.reply r b).state.pru = s.pru ∧ (s.reply r b).state.dbc = s.dbc ∧ (s.reply r b).state.riu = s.riu ∧
    (s.reply r b).state.sj = s.sj ∧ (s.reply r b).state.sps = s.sps ∧ (s.reply r b).state.sus = s.sus := by
  simp [State.reply]

@[simp] theorem State.code_frame (s : State) (r : Result) :
    (s.code r).state.pending = s.pending ∧ (s.code r).state.resetHeld = s.resetHeld ∧
    (s.code r).state.pins = s.pins ∧ (s.code r).state.clp = s.clp ∧ (s.code r).state.nu = s.nu ∧
    (s.code r).state.miu = s.miu ∧ (s.code r).state.fpc = s.fpc ∧ (s.code r).state.psg = s.psg ∧
    (s.code r).state.pru = s.pru ∧ (s.code r).state.dbc = s.dbc ∧ (s.code r).state.riu = s.riu ∧
    (s.code r).state.sj = s.sj ∧ (s.code r).state.sps = s.sps ∧ (s.code r).state.sus = s.sus := by
  simp [State.code]

@[simp] theorem State.replyWritten_frame (s before : State) (r : Result) (b : Body) :
    (s.replyWritten before r b).state.pending = s.pending ∧
    (s.replyWritten before r b).state.resetHeld = s.resetHeld ∧ (s.replyWritten before r b).state.pins = s.pins ∧
    (s.replyWritten before r b).state.clp = s.clp ∧ (s.replyWritten before r b).state.nu = s.nu ∧
    (s.replyWritten before r b).state.miu = s.miu ∧ (s.replyWritten before r b).state.fpc = s.fpc ∧
    (s.replyWritten before r b).state.psg = s.psg ∧ (s.replyWritten before r b).state.pru = s.pru ∧
    (s.replyWritten before r b).state.dbc = s.dbc ∧ (s.replyWritten before r b).state.riu = s.riu ∧
    (s.replyWritten before r b).state.sj = s.sj ∧ (s.replyWritten before r b).state.sps = s.sps ∧
    (s.replyWritten before r b).state.sus = s.sus := by
  simp [State.replyWritten]

@[simp] theorem State.answerGetStatus_frame (part : Byte) (s : State) :
    (State.answerGetStatus part s).state.pending = s.pending ∧
    (State.answerGetStatus part s).state.resetHeld = s.resetHeld ∧
    (State.answerGetStatus part s).state.pins = s.pins ∧ (State.answerGetStatus part s).state.clp = s.clp ∧
    (State.answerGetStatus part s).state.nu = s.nu ∧ (State.answerGetStatus part s).state.miu = s.miu ∧
    (State.answerGetStatus part s).state.fpc = s.fpc ∧ (State.answerGetStatus part s).state.psg = s.psg ∧
    (State.answerGetStatus part s).state.pru = s.pru ∧ (State.answerGetStatus part s).state.dbc = s.dbc ∧
    (State.answerGetStatus part s).state.riu = s.riu ∧ (State.answerGetStatus part s).state.sj = s.sj ∧
    (State.answerGetStatus part s).state.sps = s.sps ∧ (State.answerGetStatus part s).state.sus = s.sus := by
  simp only [State.answerGetStatus]
  (repeat' split) <;> simp

@[simp] theorem State.answerGetNotices_frame (s : State) :
    s.answerGetNotices.state.pending = s.pending ∧ s.answerGetNotices.state.resetHeld = s.resetHeld ∧
    s.answerGetNotices.state.pins = s.pins ∧ s.answerGetNotices.state.clp = s.clp ∧
    s.answerGetNotices.state.nu = s.nu ∧ s.answerGetNotices.state.miu = s.miu ∧
    s.answerGetNotices.state.fpc = s.fpc ∧ s.answerGetNotices.state.psg = s.psg ∧
    s.answerGetNotices.state.pru = s.pru ∧ s.answerGetNotices.state.dbc = s.dbc ∧
    s.answerGetNotices.state.riu = s.riu ∧ s.answerGetNotices.state.sj = s.sj ∧
    s.answerGetNotices.state.sps = s.sps ∧ s.answerGetNotices.state.sus = s.sus := by
  simp [State.answerGetNotices]

@[simp] theorem State.answerClearNotices_frame (mask : BitVec 24) (s : State) :
    (State.answerClearNotices mask s).state.pending = s.pending ∧
    (State.answerClearNotices mask s).state.resetHeld = s.resetHeld ∧
    (State.answerClearNotices mask s).state.pins = s.pins ∧ (State.answerClearNotices mask s).state.clp = s.clp ∧
    (State.answerClearNotices mask s).state.fpc = s.fpc ∧ (State.answerClearNotices mask s).state.psg = s.psg ∧
    (State.answerClearNotices mask s).state.pru = s.pru ∧ (State.answerClearNotices mask s).state.dbc = s.dbc ∧
    (State.answerClearNotices mask s).state.riu = s.riu ∧ (State.answerClearNotices mask s).state.sj = s.sj ∧
    (State.answerClearNotices mask s).state.sps = s.sps ∧ (State.answerClearNotices mask s).state.sus = s.sus := by
  simp only [State.answerClearNotices]
  (repeat' split) <;> simp

@[simp] theorem State.answerSetNoticeEnables_frame (mask : BitVec 24) (s : State) :
    (State.answerSetNoticeEnables mask s).state.pending = s.pending ∧
    (State.answerSetNoticeEnables mask s).state.resetHeld = s.resetHeld ∧
    (State.answerSetNoticeEnables mask s).state.pins = s.pins ∧
    (State.answerSetNoticeEnables mask s).state.clp = s.clp ∧
    (State.answerSetNoticeEnables mask s).state.miu = s.miu ∧
    (State.answerSetNoticeEnables mask s).state.fpc = s.fpc ∧
    (State.answerSetNoticeEnables mask s).state.psg = s.psg ∧
    (State.answerSetNoticeEnables mask s).state.pru = s.pru ∧
    (State.answerSetNoticeEnables mask s).state.dbc = s.dbc ∧
    (State.answerSetNoticeEnables mask s).state.riu = s.riu ∧
    (State.answerSetNoticeEnables mask s).state.sj = s.sj ∧
    (State.answerSetNoticeEnables mask s).state.sps = s.sps ∧
    (State.answerSetNoticeEnables mask s).state.sus = s.sus := by
  simp [State.answerSetNoticeEnables]

@[simp] theorem State.setTime_frame (s : State) (t : Stamp) :
    (s.setTime t).pending = s.pending ∧ (s.setTime t).resetHeld = s.resetHeld ∧ (s.setTime t).pins = s.pins ∧
    (s.setTime t).clp = s.clp := by
  simp only [State.setTime]
  (repeat' split) <;> simp

@[simp] theorem State.answerSetTime_frame (day : BitVec 16) (seconds : BitVec 24) (s : State) :
    (State.answerSetTime day seconds s).state.pending = s.pending ∧
    (State.answerSetTime day seconds s).state.resetHeld = s.resetHeld ∧
    (State.answerSetTime day seconds s).state.pins = s.pins ∧
    (State.answerSetTime day seconds s).state.clp = s.clp := by
  simp only [State.answerSetTime]
  (repeat' split) <;> simp

@[simp] theorem State.answerSiteOpen_frame (s : State) :
    s.answerSiteOpen.state.pending = s.pending ∧ s.answerSiteOpen.state.resetHeld = s.resetHeld ∧
    s.answerSiteOpen.state.pins = s.pins ∧ s.answerSiteOpen.state.clp = s.clp ∧
    s.answerSiteOpen.state.sus = s.sus := by
  simp only [State.answerSiteOpen]
  (repeat' split) <;> simp

@[simp] theorem State.answerSiteClose_frame (s : State) :
    s.answerSiteClose.state.pending = s.pending ∧ s.answerSiteClose.state.resetHeld = s.resetHeld ∧
    s.answerSiteClose.state.pins = s.pins ∧ s.answerSiteClose.state.clp = s.clp ∧
    s.answerSiteClose.state.sus = s.sus := by
  simp only [State.answerSiteClose]
  (repeat' split) <;> simp

@[simp] theorem State.answerRestart_frame (force : Byte) (s : State) :
    (State.answerRestart force s).state.pending = s.pending ∧
    (State.answerRestart force s).state.resetHeld = s.resetHeld ∧
    (State.answerRestart force s).state.pins = s.pins ∧ (State.answerRestart force s).state.clp = s.clp ∧
    (State.answerRestart force s).state.nu = s.nu ∧ (State.answerRestart force s).state.miu = s.miu ∧
    (State.answerRestart force s).state.fpc = s.fpc ∧ (State.answerRestart force s).state.psg = s.psg ∧
    (State.answerRestart force s).state.pru = s.pru ∧ (State.answerRestart force s).state.dbc = s.dbc ∧
    (State.answerRestart force s).state.riu = s.riu ∧ (State.answerRestart force s).state.sj = s.sj ∧
    (State.answerRestart force s).state.sps = s.sps ∧ (State.answerRestart force s).state.sus = s.sus := by
  simp only [State.answerRestart]
  (repeat' split) <;> simp

@[simp] theorem State.answerSetSchedule_frame (mode : Byte) (days : PerDay RawDay) (s : State) :
    (State.answerSetSchedule mode days s).state.pending = s.pending ∧
    (State.answerSetSchedule mode days s).state.resetHeld = s.resetHeld ∧
    (State.answerSetSchedule mode days s).state.pins = s.pins ∧
    (State.answerSetSchedule mode days s).state.clp = s.clp ∧
    (State.answerSetSchedule mode days s).state.nu = s.nu ∧
    (State.answerSetSchedule mode days s).state.miu = s.miu ∧
    (State.answerSetSchedule mode days s).state.fpc = s.fpc ∧
    (State.answerSetSchedule mode days s).state.psg = s.psg ∧
    (State.answerSetSchedule mode days s).state.pru = s.pru ∧
    (State.answerSetSchedule mode days s).state.dbc = s.dbc ∧
    (State.answerSetSchedule mode days s).state.riu = s.riu ∧
    (State.answerSetSchedule mode days s).state.sj = s.sj := by
  simp only [State.answerSetSchedule]
  (repeat' split) <;> simp

@[simp] theorem State.answerAuthorize_frame (fp kind : Byte) (value : BitVec 32) (level grades : Byte) (expiry : BitVec 16) (token : Token) (s : State) :
    (State.answerAuthorize fp kind value level grades expiry token s).state.pending = s.pending ∧
    (State.answerAuthorize fp kind value level grades expiry token s).state.resetHeld = s.resetHeld ∧
    (State.answerAuthorize fp kind value level grades expiry token s).state.pins = s.pins ∧
    (State.answerAuthorize fp kind value level grades expiry token s).state.clp = s.clp ∧
    (State.answerAuthorize fp kind value level grades expiry token s).state.sus = s.sus := by
  unfold State.answerAuthorize
  split
  · next f q clamped _ _ =>
    have h := State.authorize_frame s f q
    split <;> simp_all
  · simp

@[simp] theorem State.cancelAuth_frame (s : State) (f : Fp) :
    (s.cancelAuth f).state.pending = s.pending ∧ (s.cancelAuth f).state.resetHeld = s.resetHeld ∧
    (s.cancelAuth f).state.pins = s.pins ∧ (s.cancelAuth f).state.clp = s.clp ∧
    (s.cancelAuth f).state.miu = s.miu ∧ (s.cancelAuth f).state.sps = s.sps ∧
    (s.cancelAuth f).state.sus = s.sus := by
  simp only [State.cancelAuth]
  (repeat' split) <;> simp

@[simp] theorem State.answerCancelAuth_frame (fp : Byte) (s : State) :
    (State.answerCancelAuth fp s).state.pending = s.pending ∧
    (State.answerCancelAuth fp s).state.resetHeld = s.resetHeld ∧
    (State.answerCancelAuth fp s).state.pins = s.pins ∧ (State.answerCancelAuth fp s).state.clp = s.clp ∧
    (State.answerCancelAuth fp s).state.miu = s.miu ∧ (State.answerCancelAuth fp s).state.sps = s.sps ∧
    (State.answerCancelAuth fp s).state.sus = s.sus := by
  simp only [State.answerCancelAuth]
  (repeat' split) <;> simp

@[simp] theorem State.stopFp_frame (s : State) (f : Fp) :
    (s.stopFp f).state.pending = s.pending ∧ (s.stopFp f).state.resetHeld = s.resetHeld ∧
    (s.stopFp f).state.pins = s.pins ∧ (s.stopFp f).state.clp = s.clp ∧ (s.stopFp f).state.miu = s.miu ∧
    (s.stopFp f).state.sps = s.sps ∧ (s.stopFp f).state.sus = s.sus := by
  simp only [State.stopFp]
  (repeat' split) <;> simp

@[simp] theorem State.answerStopFp_frame (fp : Byte) (s : State) :
    (State.answerStopFp fp s).state.pending = s.pending ∧ (State.answerStopFp fp s).state.resetHeld = s.resetHeld ∧
    (State.answerStopFp fp s).state.pins = s.pins ∧ (State.answerStopFp fp s).state.clp = s.clp ∧
    (State.answerStopFp fp s).state.miu = s.miu ∧ (State.answerStopFp fp s).state.sps = s.sps ∧
    (State.answerStopFp fp s).state.sus = s.sus := by
  simp only [State.answerStopFp]
  (repeat' split) <;> simp

@[simp] theorem State.answerFpStatus_frame (fp : Byte) (s : State) :
    (State.answerFpStatus fp s).state.pending = s.pending ∧
    (State.answerFpStatus fp s).state.resetHeld = s.resetHeld ∧ (State.answerFpStatus fp s).state.pins = s.pins ∧
    (State.answerFpStatus fp s).state.clp = s.clp ∧ (State.answerFpStatus fp s).state.nu = s.nu ∧
    (State.answerFpStatus fp s).state.miu = s.miu ∧ (State.answerFpStatus fp s).state.fpc = s.fpc ∧
    (State.answerFpStatus fp s).state.psg = s.psg ∧ (State.answerFpStatus fp s).state.pru = s.pru ∧
    (State.answerFpStatus fp s).state.dbc = s.dbc ∧ (State.answerFpStatus fp s).state.riu = s.riu ∧
    (State.answerFpStatus fp s).state.sj = s.sj ∧ (State.answerFpStatus fp s).state.sps = s.sps ∧
    (State.answerFpStatus fp s).state.sus = s.sus := by
  simp only [State.answerFpStatus]
  (repeat' split) <;> simp

@[simp] theorem State.retryModule_frame (s : State) (m : ModuleId) :
    (s.retryModule m).pending = s.pending ∧ (s.retryModule m).resetHeld = s.resetHeld ∧
    (s.retryModule m).pins = s.pins ∧ (s.retryModule m).clp = s.clp ∧ (s.retryModule m).nu = s.nu ∧
    (s.retryModule m).miu = s.miu ∧ (s.retryModule m).fpc = s.fpc ∧ (s.retryModule m).psg = s.psg ∧
    (s.retryModule m).riu = s.riu ∧ (s.retryModule m).sj = s.sj ∧ (s.retryModule m).sps = s.sps ∧
    (s.retryModule m).sus = s.sus := by
  simp only [State.retryModule]
  (repeat' split) <;> simp

@[simp] theorem State.retryDisplays_frame (s : State) (f : Fp) :
    (s.retryDisplays f).pending = s.pending ∧ (s.retryDisplays f).resetHeld = s.resetHeld ∧
    (s.retryDisplays f).pins = s.pins ∧ (s.retryDisplays f).clp = s.clp ∧ (s.retryDisplays f).nu = s.nu ∧
    (s.retryDisplays f).miu = s.miu ∧ (s.retryDisplays f).fpc = s.fpc ∧ (s.retryDisplays f).psg = s.psg ∧
    (s.retryDisplays f).riu = s.riu ∧ (s.retryDisplays f).sj = s.sj ∧ (s.retryDisplays f).sps = s.sps ∧
    (s.retryDisplays f).sus = s.sus := by
  simp only [State.retryDisplays]
  (repeat' split) <;> simp

@[simp] theorem State.unlock_frame (s : State) (f : Fp) :
    (s.unlock f).pending = s.pending ∧ (s.unlock f).resetHeld = s.resetHeld ∧ (s.unlock f).pins = s.pins ∧
    (s.unlock f).clp = s.clp ∧ (s.unlock f).nu = s.nu ∧ (s.unlock f).miu = s.miu ∧ (s.unlock f).psg = s.psg ∧
    (s.unlock f).riu = s.riu ∧ (s.unlock f).sps = s.sps ∧ (s.unlock f).sus = s.sus := by
  simp only [State.unlock]
  (repeat' split) <;> simp

@[simp] theorem State.clearLock_frame (s : State) (f : Fp) :
    (s.clearLock f).state.pending = s.pending ∧ (s.clearLock f).state.resetHeld = s.resetHeld ∧
    (s.clearLock f).state.pins = s.pins ∧ (s.clearLock f).state.clp = s.clp ∧ (s.clearLock f).state.nu = s.nu ∧
    (s.clearLock f).state.miu = s.miu ∧ (s.clearLock f).state.psg = s.psg ∧ (s.clearLock f).state.riu = s.riu ∧
    (s.clearLock f).state.sps = s.sps ∧ (s.clearLock f).state.sus = s.sus := by
  simp only [State.clearLock]
  (repeat' split) <;> simp

@[simp] theorem State.answerClearLock_frame (fp : Byte) (s : State) :
    (State.answerClearLock fp s).state.pending = s.pending ∧
    (State.answerClearLock fp s).state.resetHeld = s.resetHeld ∧ (State.answerClearLock fp s).state.pins = s.pins ∧
    (State.answerClearLock fp s).state.clp = s.clp ∧ (State.answerClearLock fp s).state.nu = s.nu ∧
    (State.answerClearLock fp s).state.miu = s.miu ∧ (State.answerClearLock fp s).state.psg = s.psg ∧
    (State.answerClearLock fp s).state.riu = s.riu ∧ (State.answerClearLock fp s).state.sps = s.sps ∧
    (State.answerClearLock fp s).state.sus = s.sus := by
  simp only [State.answerClearLock]
  (repeat' split) <;> simp

@[simp] theorem State.answerClearFaultMeter_frame (meter : Byte) (s : State) :
    (State.answerClearFaultMeter meter s).state.pending = s.pending ∧
    (State.answerClearFaultMeter meter s).state.resetHeld = s.resetHeld ∧
    (State.answerClearFaultMeter meter s).state.pins = s.pins ∧
    (State.answerClearFaultMeter meter s).state.clp = s.clp ∧
    (State.answerClearFaultMeter meter s).state.nu = s.nu ∧
    (State.answerClearFaultMeter meter s).state.fpc = s.fpc ∧
    (State.answerClearFaultMeter meter s).state.psg = s.psg ∧
    (State.answerClearFaultMeter meter s).state.pru = s.pru ∧
    (State.answerClearFaultMeter meter s).state.dbc = s.dbc ∧
    (State.answerClearFaultMeter meter s).state.riu = s.riu ∧
    (State.answerClearFaultMeter meter s).state.sj = s.sj ∧
    (State.answerClearFaultMeter meter s).state.sps = s.sps ∧
    (State.answerClearFaultMeter meter s).state.sus = s.sus := by
  simp only [State.answerClearFaultMeter]
  (repeat' split) <;> simp

@[simp] theorem State.clearPump_frame (s : State) (p : Pump) :
    (s.clearPump p).pending = s.pending ∧ (s.clearPump p).resetHeld = s.resetHeld ∧ (s.clearPump p).pins = s.pins ∧
    (s.clearPump p).clp = s.clp ∧ (s.clearPump p).nu = s.nu ∧ (s.clearPump p).miu = s.miu ∧
    (s.clearPump p).fpc = s.fpc ∧ (s.clearPump p).pru = s.pru ∧ (s.clearPump p).dbc = s.dbc ∧
    (s.clearPump p).riu = s.riu ∧ (s.clearPump p).sj = s.sj ∧ (s.clearPump p).sps = s.sps ∧
    (s.clearPump p).sus = s.sus := by
  simp only [State.clearPump]
  (repeat' split) <;> simp

@[simp] theorem State.answerClearFaultPump_frame (p : Pump) (s : State) :
    (State.answerClearFaultPump p s).state.pending = s.pending ∧
    (State.answerClearFaultPump p s).state.resetHeld = s.resetHeld ∧
    (State.answerClearFaultPump p s).state.pins = s.pins ∧ (State.answerClearFaultPump p s).state.clp = s.clp ∧
    (State.answerClearFaultPump p s).state.nu = s.nu ∧ (State.answerClearFaultPump p s).state.miu = s.miu ∧
    (State.answerClearFaultPump p s).state.fpc = s.fpc ∧ (State.answerClearFaultPump p s).state.pru = s.pru ∧
    (State.answerClearFaultPump p s).state.dbc = s.dbc ∧ (State.answerClearFaultPump p s).state.riu = s.riu ∧
    (State.answerClearFaultPump p s).state.sj = s.sj ∧ (State.answerClearFaultPump p s).state.sps = s.sps ∧
    (State.answerClearFaultPump p s).state.sus = s.sus := by
  simp only [State.answerClearFaultPump]
  (repeat' split) <;> simp

@[simp] theorem State.answerStagePricesAt_frame (seconds : BitVec 24) (es : PerGrade RawPrice) (s : State) :
    (State.answerStagePricesAt seconds es s).state.pending = s.pending ∧
    (State.answerStagePricesAt seconds es s).state.resetHeld = s.resetHeld ∧
    (State.answerStagePricesAt seconds es s).state.pins = s.pins ∧
    (State.answerStagePricesAt seconds es s).state.clp = s.clp ∧
    (State.answerStagePricesAt seconds es s).state.nu = s.nu ∧
    (State.answerStagePricesAt seconds es s).state.miu = s.miu ∧
    (State.answerStagePricesAt seconds es s).state.fpc = s.fpc ∧
    (State.answerStagePricesAt seconds es s).state.psg = s.psg ∧
    (State.answerStagePricesAt seconds es s).state.dbc = s.dbc ∧
    (State.answerStagePricesAt seconds es s).state.riu = s.riu ∧
    (State.answerStagePricesAt seconds es s).state.sj = s.sj ∧
    (State.answerStagePricesAt seconds es s).state.sps = s.sps ∧
    (State.answerStagePricesAt seconds es s).state.sus = s.sus := by
  simp only [State.answerStagePricesAt]
  (repeat' split) <;> simp

@[simp] theorem State.answerStagePricesNow_frame (es : PerGrade RawPrice) (s : State) :
    (State.answerStagePricesNow es s).state.pending = s.pending ∧
    (State.answerStagePricesNow es s).state.resetHeld = s.resetHeld ∧
    (State.answerStagePricesNow es s).state.pins = s.pins ∧ (State.answerStagePricesNow es s).state.clp = s.clp ∧
    (State.answerStagePricesNow es s).state.miu = s.miu ∧ (State.answerStagePricesNow es s).state.psg = s.psg ∧
    (State.answerStagePricesNow es s).state.riu = s.riu ∧ (State.answerStagePricesNow es s).state.sj = s.sj ∧
    (State.answerStagePricesNow es s).state.sps = s.sps := by
  simp only [State.answerStagePricesNow]
  (repeat' split) <;> simp

@[simp] theorem State.answerCancelPrices_frame (s : State) :
    s.answerCancelPrices.state.pending = s.pending ∧ s.answerCancelPrices.state.resetHeld = s.resetHeld ∧
    s.answerCancelPrices.state.pins = s.pins ∧ s.answerCancelPrices.state.clp = s.clp ∧
    s.answerCancelPrices.state.nu = s.nu ∧ s.answerCancelPrices.state.miu = s.miu ∧
    s.answerCancelPrices.state.fpc = s.fpc ∧ s.answerCancelPrices.state.psg = s.psg ∧
    s.answerCancelPrices.state.dbc = s.dbc ∧ s.answerCancelPrices.state.riu = s.riu ∧
    s.answerCancelPrices.state.sj = s.sj ∧ s.answerCancelPrices.state.sps = s.sps ∧
    s.answerCancelPrices.state.sus = s.sus := by
  simp only [State.answerCancelPrices]
  (repeat' split) <;> simp

@[simp] theorem State.answerPriceStatus_frame (s : State) :
    s.answerPriceStatus.state.pending = s.pending ∧ s.answerPriceStatus.state.resetHeld = s.resetHeld ∧
    s.answerPriceStatus.state.pins = s.pins ∧ s.answerPriceStatus.state.clp = s.clp ∧
    s.answerPriceStatus.state.nu = s.nu ∧ s.answerPriceStatus.state.miu = s.miu ∧
    s.answerPriceStatus.state.fpc = s.fpc ∧ s.answerPriceStatus.state.psg = s.psg ∧
    s.answerPriceStatus.state.pru = s.pru ∧ s.answerPriceStatus.state.dbc = s.dbc ∧
    s.answerPriceStatus.state.riu = s.riu ∧ s.answerPriceStatus.state.sj = s.sj ∧
    s.answerPriceStatus.state.sps = s.sps ∧ s.answerPriceStatus.state.sus = s.sus := by
  simp [State.answerPriceStatus]

@[simp] theorem State.replyEntry_frame (s : State) (x : Option (Fin 32 × Entry)) :
    (s.replyEntry x).state.pending = s.pending ∧ (s.replyEntry x).state.resetHeld = s.resetHeld ∧
    (s.replyEntry x).state.pins = s.pins ∧ (s.replyEntry x).state.clp = s.clp ∧ (s.replyEntry x).state.nu = s.nu ∧
    (s.replyEntry x).state.miu = s.miu ∧ (s.replyEntry x).state.fpc = s.fpc ∧ (s.replyEntry x).state.psg = s.psg ∧
    (s.replyEntry x).state.pru = s.pru ∧ (s.replyEntry x).state.dbc = s.dbc ∧ (s.replyEntry x).state.riu = s.riu ∧
    (s.replyEntry x).state.sj = s.sj ∧ (s.replyEntry x).state.sps = s.sps ∧
    (s.replyEntry x).state.sus = s.sus := by
  simp only [State.replyEntry]
  (repeat' split) <;> simp

@[simp] theorem State.answerReadSale_frame (selector : Byte) (value : BitVec 32) (s : State) :
    (State.answerReadSale selector value s).state.pending = s.pending ∧
    (State.answerReadSale selector value s).state.resetHeld = s.resetHeld ∧
    (State.answerReadSale selector value s).state.pins = s.pins ∧
    (State.answerReadSale selector value s).state.clp = s.clp ∧
    (State.answerReadSale selector value s).state.nu = s.nu ∧
    (State.answerReadSale selector value s).state.miu = s.miu ∧
    (State.answerReadSale selector value s).state.fpc = s.fpc ∧
    (State.answerReadSale selector value s).state.psg = s.psg ∧
    (State.answerReadSale selector value s).state.pru = s.pru ∧
    (State.answerReadSale selector value s).state.dbc = s.dbc ∧
    (State.answerReadSale selector value s).state.riu = s.riu ∧
    (State.answerReadSale selector value s).state.sj = s.sj ∧
    (State.answerReadSale selector value s).state.sps = s.sps ∧
    (State.answerReadSale selector value s).state.sus = s.sus := by
  simp only [State.answerReadSale]
  (repeat' split) <;> simp

@[simp] theorem State.answerSettleSale_frame (seq : BitVec 32) (token : Token) (s : State) :
    (State.answerSettleSale seq token s).state.pending = s.pending ∧
    (State.answerSettleSale seq token s).state.resetHeld = s.resetHeld ∧
    (State.answerSettleSale seq token s).state.pins = s.pins ∧
    (State.answerSettleSale seq token s).state.clp = s.clp ∧ (State.answerSettleSale seq token s).state.nu = s.nu ∧
    (State.answerSettleSale seq token s).state.miu = s.miu ∧
    (State.answerSettleSale seq token s).state.fpc = s.fpc ∧
    (State.answerSettleSale seq token s).state.psg = s.psg ∧
    (State.answerSettleSale seq token s).state.pru = s.pru ∧
    (State.answerSettleSale seq token s).state.dbc = s.dbc ∧
    (State.answerSettleSale seq token s).state.riu = s.riu ∧
    (State.answerSettleSale seq token s).state.sps = s.sps ∧
    (State.answerSettleSale seq token s).state.sus = s.sus := by
  simp [State.answerSettleSale]

@[simp] theorem State.answerTakeOver_frame (seq : BitVec 32) (s : State) :
    (State.answerTakeOver seq s).state.pending = s.pending ∧
    (State.answerTakeOver seq s).state.resetHeld = s.resetHeld ∧ (State.answerTakeOver seq s).state.pins = s.pins ∧
    (State.answerTakeOver seq s).state.clp = s.clp ∧ (State.answerTakeOver seq s).state.nu = s.nu ∧
    (State.answerTakeOver seq s).state.miu = s.miu ∧ (State.answerTakeOver seq s).state.fpc = s.fpc ∧
    (State.answerTakeOver seq s).state.psg = s.psg ∧ (State.answerTakeOver seq s).state.pru = s.pru ∧
    (State.answerTakeOver seq s).state.dbc = s.dbc ∧ (State.answerTakeOver seq s).state.riu = s.riu ∧
    (State.answerTakeOver seq s).state.sps = s.sps ∧ (State.answerTakeOver seq s).state.sus = s.sus := by
  simp [State.answerTakeOver]

@[simp] theorem State.answerJournalStatus_frame (s : State) :
    s.answerJournalStatus.state.pending = s.pending ∧ s.answerJournalStatus.state.resetHeld = s.resetHeld ∧
    s.answerJournalStatus.state.pins = s.pins ∧ s.answerJournalStatus.state.clp = s.clp ∧
    s.answerJournalStatus.state.nu = s.nu ∧ s.answerJournalStatus.state.miu = s.miu ∧
    s.answerJournalStatus.state.fpc = s.fpc ∧ s.answerJournalStatus.state.psg = s.psg ∧
    s.answerJournalStatus.state.pru = s.pru ∧ s.answerJournalStatus.state.dbc = s.dbc ∧
    s.answerJournalStatus.state.riu = s.riu ∧ s.answerJournalStatus.state.sj = s.sj ∧
    s.answerJournalStatus.state.sps = s.sps ∧ s.answerJournalStatus.state.sus = s.sus := by
  simp [State.answerJournalStatus]

@[simp] theorem State.answerReadTotals_frame (part : Byte) (s : State) :
    (State.answerReadTotals part s).state.pending = s.pending ∧
    (State.answerReadTotals part s).state.resetHeld = s.resetHeld ∧
    (State.answerReadTotals part s).state.pins = s.pins ∧ (State.answerReadTotals part s).state.clp = s.clp ∧
    (State.answerReadTotals part s).state.nu = s.nu ∧ (State.answerReadTotals part s).state.miu = s.miu ∧
    (State.answerReadTotals part s).state.fpc = s.fpc ∧ (State.answerReadTotals part s).state.psg = s.psg ∧
    (State.answerReadTotals part s).state.pru = s.pru ∧ (State.answerReadTotals part s).state.dbc = s.dbc ∧
    (State.answerReadTotals part s).state.riu = s.riu ∧ (State.answerReadTotals part s).state.sj = s.sj ∧
    (State.answerReadTotals part s).state.sps = s.sps ∧ (State.answerReadTotals part s).state.sus = s.sus := by
  simp only [State.answerReadTotals]
  (repeat' split) <;> simp

@[simp] theorem State.answerReaderStatus_frame (s : State) :
    s.answerReaderStatus.state.pending = s.pending ∧ s.answerReaderStatus.state.resetHeld = s.resetHeld ∧
    s.answerReaderStatus.state.pins = s.pins ∧ s.answerReaderStatus.state.clp = s.clp ∧
    s.answerReaderStatus.state.nu = s.nu ∧ s.answerReaderStatus.state.miu = s.miu ∧
    s.answerReaderStatus.state.fpc = s.fpc ∧ s.answerReaderStatus.state.psg = s.psg ∧
    s.answerReaderStatus.state.pru = s.pru ∧ s.answerReaderStatus.state.dbc = s.dbc ∧
    s.answerReaderStatus.state.riu = s.riu ∧ s.answerReaderStatus.state.sj = s.sj ∧
    s.answerReaderStatus.state.sps = s.sps ∧ s.answerReaderStatus.state.sus = s.sus := by
  simp [State.answerReaderStatus]

@[simp] theorem State.answerReaderRelease_frame (s : State) :
    s.answerReaderRelease.state.pending = s.pending ∧ s.answerReaderRelease.state.resetHeld = s.resetHeld ∧
    s.answerReaderRelease.state.pins = s.pins ∧ s.answerReaderRelease.state.clp = s.clp ∧
    s.answerReaderRelease.state.nu = s.nu ∧ s.answerReaderRelease.state.miu = s.miu ∧
    s.answerReaderRelease.state.fpc = s.fpc ∧ s.answerReaderRelease.state.psg = s.psg ∧
    s.answerReaderRelease.state.pru = s.pru ∧ s.answerReaderRelease.state.dbc = s.dbc ∧
    s.answerReaderRelease.state.sj = s.sj ∧ s.answerReaderRelease.state.sps = s.sps ∧
    s.answerReaderRelease.state.sus = s.sus := by
  simp only [State.answerReaderRelease]
  (repeat' split) <;> simp

@[simp] theorem State.answerReaderPowerCycle_frame (s : State) :
    s.answerReaderPowerCycle.state.pending = s.pending ∧ s.answerReaderPowerCycle.state.resetHeld = s.resetHeld ∧
    s.answerReaderPowerCycle.state.pins = s.pins ∧ s.answerReaderPowerCycle.state.clp = s.clp ∧
    s.answerReaderPowerCycle.state.miu = s.miu ∧ s.answerReaderPowerCycle.state.psg = s.psg ∧
    s.answerReaderPowerCycle.state.pru = s.pru ∧ s.answerReaderPowerCycle.state.dbc = s.dbc ∧
    s.answerReaderPowerCycle.state.sus = s.sus := by
  simp only [State.answerReaderPowerCycle]
  (repeat' split) <;> simp

@[simp] theorem State.answerSendToReader_frame (text : List Byte) (s : State) :
    (State.answerSendToReader text s).state.pending = s.pending ∧
    (State.answerSendToReader text s).state.resetHeld = s.resetHeld ∧
    (State.answerSendToReader text s).state.pins = s.pins ∧ (State.answerSendToReader text s).state.clp = s.clp ∧
    (State.answerSendToReader text s).state.nu = s.nu ∧ (State.answerSendToReader text s).state.miu = s.miu ∧
    (State.answerSendToReader text s).state.fpc = s.fpc ∧ (State.answerSendToReader text s).state.psg = s.psg ∧
    (State.answerSendToReader text s).state.pru = s.pru ∧ (State.answerSendToReader text s).state.dbc = s.dbc ∧
    (State.answerSendToReader text s).state.sj = s.sj ∧ (State.answerSendToReader text s).state.sps = s.sps ∧
    (State.answerSendToReader text s).state.sus = s.sus := by
  simp only [State.answerSendToReader]
  (repeat' split) <;> simp

@[simp] theorem State.answerAbortToReader_frame (s : State) :
    s.answerAbortToReader.state.pending = s.pending ∧ s.answerAbortToReader.state.resetHeld = s.resetHeld ∧
    s.answerAbortToReader.state.pins = s.pins ∧ s.answerAbortToReader.state.clp = s.clp ∧
    s.answerAbortToReader.state.nu = s.nu ∧ s.answerAbortToReader.state.miu = s.miu ∧
    s.answerAbortToReader.state.fpc = s.fpc ∧ s.answerAbortToReader.state.psg = s.psg ∧
    s.answerAbortToReader.state.pru = s.pru ∧ s.answerAbortToReader.state.dbc = s.dbc ∧
    s.answerAbortToReader.state.sj = s.sj ∧ s.answerAbortToReader.state.sps = s.sps ∧
    s.answerAbortToReader.state.sus = s.sus := by
  simp only [State.answerAbortToReader]
  (repeat' split) <;> simp

@[simp] theorem State.answerReadPassthrough_frame (s : State) :
    s.answerReadPassthrough.state.pending = s.pending ∧ s.answerReadPassthrough.state.resetHeld = s.resetHeld ∧
    s.answerReadPassthrough.state.pins = s.pins ∧ s.answerReadPassthrough.state.clp = s.clp ∧
    s.answerReadPassthrough.state.nu = s.nu ∧ s.answerReadPassthrough.state.miu = s.miu ∧
    s.answerReadPassthrough.state.fpc = s.fpc ∧ s.answerReadPassthrough.state.psg = s.psg ∧
    s.answerReadPassthrough.state.pru = s.pru ∧ s.answerReadPassthrough.state.dbc = s.dbc ∧
    s.answerReadPassthrough.state.sj = s.sj ∧ s.answerReadPassthrough.state.sps = s.sps ∧
    s.answerReadPassthrough.state.sus = s.sus := by
  simp only [State.answerReadPassthrough]
  (repeat' split) <;> simp

@[simp] theorem State.answerClearOverrun_frame (s : State) :
    s.answerClearOverrun.state.pending = s.pending ∧ s.answerClearOverrun.state.resetHeld = s.resetHeld ∧
    s.answerClearOverrun.state.pins = s.pins ∧ s.answerClearOverrun.state.clp = s.clp ∧
    s.answerClearOverrun.state.nu = s.nu ∧ s.answerClearOverrun.state.miu = s.miu ∧
    s.answerClearOverrun.state.fpc = s.fpc ∧ s.answerClearOverrun.state.psg = s.psg ∧
    s.answerClearOverrun.state.pru = s.pru ∧ s.answerClearOverrun.state.dbc = s.dbc ∧
    s.answerClearOverrun.state.sj = s.sj ∧ s.answerClearOverrun.state.sps = s.sps ∧
    s.answerClearOverrun.state.sus = s.sus := by
  simp only [State.answerClearOverrun]
  (repeat' split) <;> simp

@[simp] theorem State.answerSetReaderPolicy_frame (kinds fps : Byte) (ceiling : BitVec 32) (autoCycle : Byte) (s : State) :
    (State.answerSetReaderPolicy kinds fps ceiling autoCycle s).state.pending = s.pending ∧
    (State.answerSetReaderPolicy kinds fps ceiling autoCycle s).state.resetHeld = s.resetHeld ∧
    (State.answerSetReaderPolicy kinds fps ceiling autoCycle s).state.pins = s.pins ∧
    (State.answerSetReaderPolicy kinds fps ceiling autoCycle s).state.clp = s.clp ∧
    (State.answerSetReaderPolicy kinds fps ceiling autoCycle s).state.nu = s.nu ∧
    (State.answerSetReaderPolicy kinds fps ceiling autoCycle s).state.miu = s.miu ∧
    (State.answerSetReaderPolicy kinds fps ceiling autoCycle s).state.fpc = s.fpc ∧
    (State.answerSetReaderPolicy kinds fps ceiling autoCycle s).state.psg = s.psg ∧
    (State.answerSetReaderPolicy kinds fps ceiling autoCycle s).state.pru = s.pru ∧
    (State.answerSetReaderPolicy kinds fps ceiling autoCycle s).state.dbc = s.dbc ∧
    (State.answerSetReaderPolicy kinds fps ceiling autoCycle s).state.sj = s.sj ∧
    (State.answerSetReaderPolicy kinds fps ceiling autoCycle s).state.sps = s.sps := by
  simp only [State.answerSetReaderPolicy]
  (repeat' split) <;> simp

@[simp] theorem State.withEdit_frame (s : State) (e : Option Image) :
    (s.withEdit e).pending = s.pending ∧ (s.withEdit e).resetHeld = s.resetHeld ∧ (s.withEdit e).pins = s.pins ∧
    (s.withEdit e).clp = s.clp ∧ (s.withEdit e).nu = s.nu ∧ (s.withEdit e).miu = s.miu ∧
    (s.withEdit e).fpc = s.fpc ∧ (s.withEdit e).psg = s.psg ∧ (s.withEdit e).pru = s.pru ∧
    (s.withEdit e).dbc = s.dbc ∧ (s.withEdit e).riu = s.riu ∧ (s.withEdit e).sj = s.sj ∧
    (s.withEdit e).sps = s.sps := by
  simp [State.withEdit]

@[simp] theorem State.enterSetup_frame (s : State) :
    s.enterSetup.pending = s.pending ∧ s.enterSetup.resetHeld = s.resetHeld ∧ s.enterSetup.pins = s.pins ∧
    s.enterSetup.clp = s.clp ∧ s.enterSetup.nu = s.nu ∧ s.enterSetup.miu = s.miu ∧ s.enterSetup.psg = s.psg ∧
    s.enterSetup.pru = s.pru ∧ s.enterSetup.dbc = s.dbc ∧ s.enterSetup.riu = s.riu ∧ s.enterSetup.sj = s.sj ∧
    s.enterSetup.sps = s.sps := by
  simp [State.enterSetup]

@[simp] theorem State.answerEnterSetup_frame (s : State) :
    s.answerEnterSetup.state.pending = s.pending ∧ s.answerEnterSetup.state.resetHeld = s.resetHeld ∧
    s.answerEnterSetup.state.pins = s.pins ∧ s.answerEnterSetup.state.clp = s.clp ∧
    s.answerEnterSetup.state.nu = s.nu ∧ s.answerEnterSetup.state.miu = s.miu ∧
    s.answerEnterSetup.state.psg = s.psg ∧ s.answerEnterSetup.state.pru = s.pru ∧
    s.answerEnterSetup.state.dbc = s.dbc ∧ s.answerEnterSetup.state.riu = s.riu ∧
    s.answerEnterSetup.state.sj = s.sj ∧ s.answerEnterSetup.state.sps = s.sps := by
  simp only [State.answerEnterSetup]
  (repeat' split) <;> simp

@[simp] theorem State.readdress_frame (s : State) (m : ModuleId) :
    (s.readdress m).pending = s.pending ∧ (s.readdress m).resetHeld = s.resetHeld ∧ (s.readdress m).pins = s.pins ∧
    (s.readdress m).clp = s.clp ∧ (s.readdress m).nu = s.nu ∧ (s.readdress m).miu = s.miu ∧
    (s.readdress m).psg = s.psg ∧ (s.readdress m).riu = s.riu ∧ (s.readdress m).sj = s.sj ∧
    (s.readdress m).sps = s.sps ∧ (s.readdress m).sus = s.sus := by
  simp only [State.readdress]
  (repeat' split) <;> simp

@[simp] theorem State.replaceAnticipation_frame (s : State) (before : Image) :
    (s.replaceAnticipation before).pending = s.pending ∧ (s.replaceAnticipation before).resetHeld = s.resetHeld ∧
    (s.replaceAnticipation before).pins = s.pins ∧ (s.replaceAnticipation before).clp = s.clp ∧
    (s.replaceAnticipation before).nu = s.nu ∧ (s.replaceAnticipation before).miu = s.miu ∧
    (s.replaceAnticipation before).fpc = s.fpc ∧ (s.replaceAnticipation before).psg = s.psg ∧
    (s.replaceAnticipation before).pru = s.pru ∧ (s.replaceAnticipation before).dbc = s.dbc ∧
    (s.replaceAnticipation before).riu = s.riu ∧ (s.replaceAnticipation before).sps = s.sps ∧
    (s.replaceAnticipation before).sus = s.sus := by
  simp only [State.replaceAnticipation]
  (repeat' split) <;> simp

@[simp] theorem State.matchNightWatch_frame (s : State) :
    s.matchNightWatch.pending = s.pending ∧ s.matchNightWatch.resetHeld = s.resetHeld ∧
    s.matchNightWatch.pins = s.pins ∧ s.matchNightWatch.clp = s.clp ∧ s.matchNightWatch.nu = s.nu ∧
    s.matchNightWatch.fpc = s.fpc ∧ s.matchNightWatch.psg = s.psg ∧ s.matchNightWatch.pru = s.pru ∧
    s.matchNightWatch.dbc = s.dbc ∧ s.matchNightWatch.riu = s.riu ∧ s.matchNightWatch.sj = s.sj ∧
    s.matchNightWatch.sus = s.sus := by
  simp only [State.matchNightWatch]
  (repeat' split) <;> simp

@[simp] theorem State.handOver_frame (s : State) (before : Image) :
    (s.handOver before).pending = s.pending ∧ (s.handOver before).resetHeld = s.resetHeld ∧
    (s.handOver before).pins = s.pins ∧ (s.handOver before).clp = s.clp ∧ (s.handOver before).nu = s.nu ∧
    (s.handOver before).psg = s.psg ∧ (s.handOver before).riu = s.riu ∧ (s.handOver before).sus = s.sus := by
  simp [State.handOver, ModuleId.all]

@[simp] theorem State.reopen_frame (s : State) (f : Fp) :
    (s.reopen f).pending = s.pending ∧ (s.reopen f).resetHeld = s.resetHeld ∧ (s.reopen f).pins = s.pins ∧
    (s.reopen f).clp = s.clp ∧ (s.reopen f).nu = s.nu ∧ (s.reopen f).miu = s.miu ∧ (s.reopen f).psg = s.psg ∧
    (s.reopen f).riu = s.riu ∧ (s.reopen f).sj = s.sj ∧ (s.reopen f).sps = s.sps ∧ (s.reopen f).sus = s.sus := by
  simp [State.reopen]

@[simp] theorem State.completeSetup_frame (s : State) (e : Image) :
    (s.completeSetup e).pending = s.pending ∧ (s.completeSetup e).resetHeld = s.resetHeld ∧
    (s.completeSetup e).pins = s.pins ∧ (s.completeSetup e).clp = s.clp ∧ (s.completeSetup e).nu = s.nu ∧
    (s.completeSetup e).psg = s.psg ∧ (s.completeSetup e).riu = s.riu := by
  simp [State.completeSetup]

@[simp] theorem State.answerLeaveSetup_frame (s : State) :
    s.answerLeaveSetup.state.pending = s.pending ∧ s.answerLeaveSetup.state.resetHeld = s.resetHeld ∧
    s.answerLeaveSetup.state.pins = s.pins ∧ s.answerLeaveSetup.state.clp = s.clp ∧
    s.answerLeaveSetup.state.nu = s.nu ∧ s.answerLeaveSetup.state.psg = s.psg ∧
    s.answerLeaveSetup.state.riu = s.riu := by
  simp only [State.answerLeaveSetup]
  (repeat' split) <;> simp

@[simp] theorem State.answerSetItem_frame (item index : Byte) (value : BitVec 32) (s : State) :
    (State.answerSetItem item index value s).state.pending = s.pending ∧
    (State.answerSetItem item index value s).state.resetHeld = s.resetHeld ∧
    (State.answerSetItem item index value s).state.pins = s.pins ∧
    (State.answerSetItem item index value s).state.clp = s.clp ∧
    (State.answerSetItem item index value s).state.nu = s.nu ∧
    (State.answerSetItem item index value s).state.miu = s.miu ∧
    (State.answerSetItem item index value s).state.fpc = s.fpc ∧
    (State.answerSetItem item index value s).state.psg = s.psg ∧
    (State.answerSetItem item index value s).state.pru = s.pru ∧
    (State.answerSetItem item index value s).state.dbc = s.dbc ∧
    (State.answerSetItem item index value s).state.riu = s.riu ∧
    (State.answerSetItem item index value s).state.sj = s.sj ∧
    (State.answerSetItem item index value s).state.sps = s.sps := by
  simp only [State.answerSetItem]
  (repeat' split) <;> simp

@[simp] theorem State.answerGetItem_frame (item index : Byte) (s : State) :
    (State.answerGetItem item index s).state.pending = s.pending ∧
    (State.answerGetItem item index s).state.resetHeld = s.resetHeld ∧
    (State.answerGetItem item index s).state.pins = s.pins ∧ (State.answerGetItem item index s).state.clp = s.clp ∧
    (State.answerGetItem item index s).state.nu = s.nu ∧ (State.answerGetItem item index s).state.miu = s.miu ∧
    (State.answerGetItem item index s).state.fpc = s.fpc ∧ (State.answerGetItem item index s).state.psg = s.psg ∧
    (State.answerGetItem item index s).state.pru = s.pru ∧ (State.answerGetItem item index s).state.dbc = s.dbc ∧
    (State.answerGetItem item index s).state.riu = s.riu ∧ (State.answerGetItem item index s).state.sj = s.sj ∧
    (State.answerGetItem item index s).state.sps = s.sps ∧
    (State.answerGetItem item index s).state.sus = s.sus := by
  simp only [State.answerGetItem]
  (repeat' split) <;> simp

@[simp] theorem State.calibrate_frame (s : State) (e : Image) (m : Meter) (cf : Nat) :
    (s.calibrate e m cf).pending = s.pending ∧ (s.calibrate e m cf).resetHeld = s.resetHeld ∧
    (s.calibrate e m cf).pins = s.pins ∧ (s.calibrate e m cf).clp = s.clp ∧ (s.calibrate e m cf).miu = s.miu ∧
    (s.calibrate e m cf).fpc = s.fpc ∧ (s.calibrate e m cf).psg = s.psg ∧ (s.calibrate e m cf).pru = s.pru ∧
    (s.calibrate e m cf).dbc = s.dbc ∧ (s.calibrate e m cf).riu = s.riu ∧ (s.calibrate e m cf).sps = s.sps := by
  simp [State.calibrate]

@[simp] theorem State.answerSetMeter_frame (meter : Byte) (cf : BitVec 32) (s : State) :
    (State.answerSetMeter meter cf s).state.pending = s.pending ∧
    (State.answerSetMeter meter cf s).state.resetHeld = s.resetHeld ∧
    (State.answerSetMeter meter cf s).state.pins = s.pins ∧ (State.answerSetMeter meter cf s).state.clp = s.clp ∧
    (State.answerSetMeter meter cf s).state.miu = s.miu ∧ (State.answerSetMeter meter cf s).state.fpc = s.fpc ∧
    (State.answerSetMeter meter cf s).state.psg = s.psg ∧ (State.answerSetMeter meter cf s).state.pru = s.pru ∧
    (State.answerSetMeter meter cf s).state.dbc = s.dbc ∧ (State.answerSetMeter meter cf s).state.riu = s.riu ∧
    (State.answerSetMeter meter cf s).state.sps = s.sps := by
  simp only [State.answerSetMeter]
  (repeat' split) <;> simp

@[simp] theorem State.answerReadAudit_frame (skip : Byte) (s : State) :
    (State.answerReadAudit skip s).state.pending = s.pending ∧
    (State.answerReadAudit skip s).state.resetHeld = s.resetHeld ∧
    (State.answerReadAudit skip s).state.pins = s.pins ∧ (State.answerReadAudit skip s).state.clp = s.clp ∧
    (State.answerReadAudit skip s).state.nu = s.nu ∧ (State.answerReadAudit skip s).state.miu = s.miu ∧
    (State.answerReadAudit skip s).state.fpc = s.fpc ∧ (State.answerReadAudit skip s).state.psg = s.psg ∧
    (State.answerReadAudit skip s).state.pru = s.pru ∧ (State.answerReadAudit skip s).state.dbc = s.dbc ∧
    (State.answerReadAudit skip s).state.riu = s.riu ∧ (State.answerReadAudit skip s).state.sj = s.sj ∧
    (State.answerReadAudit skip s).state.sps = s.sps ∧ (State.answerReadAudit skip s).state.sus = s.sus := by
  simp only [State.answerReadAudit]
  (repeat' split) <;> simp

@[simp] theorem State.holdTest_frame (s : State) (m : ModuleId) :
    (s.holdTest m).pending = s.pending ∧ (s.holdTest m).resetHeld = s.resetHeld ∧ (s.holdTest m).pins = s.pins ∧
    (s.holdTest m).clp = s.clp ∧ (s.holdTest m).nu = s.nu ∧ (s.holdTest m).miu = s.miu ∧
    (s.holdTest m).fpc = s.fpc ∧ (s.holdTest m).psg = s.psg ∧ (s.holdTest m).pru = s.pru ∧
    (s.holdTest m).riu = s.riu ∧ (s.holdTest m).sj = s.sj ∧ (s.holdTest m).sps = s.sps ∧
    (s.holdTest m).sus = s.sus := by
  simp [State.holdTest]

@[simp] theorem State.testModules_frame (s : State) (ms : List ModuleId) :
    (s.testModules ms).pending = s.pending ∧ (s.testModules ms).resetHeld = s.resetHeld ∧
    (s.testModules ms).pins = s.pins ∧ (s.testModules ms).clp = s.clp ∧ (s.testModules ms).nu = s.nu ∧
    (s.testModules ms).miu = s.miu ∧ (s.testModules ms).fpc = s.fpc ∧ (s.testModules ms).psg = s.psg ∧
    (s.testModules ms).riu = s.riu ∧ (s.testModules ms).sj = s.sj ∧ (s.testModules ms).sps = s.sps ∧
    (s.testModules ms).sus = s.sus := by
  have h_holdTest : ∀ (l : List ModuleId) (t : State),
      (l.foldl State.holdTest t).pending = t.pending ∧
      (l.foldl State.holdTest t).resetHeld = t.resetHeld ∧
      (l.foldl State.holdTest t).pins = t.pins ∧
      (l.foldl State.holdTest t).clp = t.clp ∧
      (l.foldl State.holdTest t).nu = t.nu ∧
      (l.foldl State.holdTest t).miu = t.miu ∧
      (l.foldl State.holdTest t).fpc = t.fpc ∧
      (l.foldl State.holdTest t).psg = t.psg ∧
      (l.foldl State.holdTest t).riu = t.riu ∧
      (l.foldl State.holdTest t).sj = t.sj ∧
      (l.foldl State.holdTest t).sps = t.sps ∧
      (l.foldl State.holdTest t).sus = t.sus := by
    intro l
    induction l with
    | nil => intro t; simp
    | cons i l ih => intro t; simp [ih]
  have h_requestTest : ∀ (l : List ModuleId) (t : State),
      (l.foldl State.requestTest t).pending = t.pending ∧
      (l.foldl State.requestTest t).resetHeld = t.resetHeld ∧
      (l.foldl State.requestTest t).pins = t.pins ∧
      (l.foldl State.requestTest t).clp = t.clp ∧
      (l.foldl State.requestTest t).nu = t.nu ∧
      (l.foldl State.requestTest t).miu = t.miu ∧
      (l.foldl State.requestTest t).fpc = t.fpc ∧
      (l.foldl State.requestTest t).psg = t.psg ∧
      (l.foldl State.requestTest t).riu = t.riu ∧
      (l.foldl State.requestTest t).sj = t.sj ∧
      (l.foldl State.requestTest t).sps = t.sps ∧
      (l.foldl State.requestTest t).sus = t.sus := by
    intro l
    induction l with
    | nil => intro t; simp
    | cons i l ih => intro t; simp [ih]
  unfold State.testModules
  split <;> simp [h_holdTest, h_requestTest]

@[simp] theorem State.answerDisplayTest_frame (module : Byte) (s : State) :
    (State.answerDisplayTest module s).state.pending = s.pending ∧
    (State.answerDisplayTest module s).state.resetHeld = s.resetHeld ∧
    (State.answerDisplayTest module s).state.pins = s.pins ∧ (State.answerDisplayTest module s).state.clp = s.clp ∧
    (State.answerDisplayTest module s).state.nu = s.nu ∧ (State.answerDisplayTest module s).state.miu = s.miu ∧
    (State.answerDisplayTest module s).state.fpc = s.fpc ∧ (State.answerDisplayTest module s).state.psg = s.psg ∧
    (State.answerDisplayTest module s).state.riu = s.riu ∧ (State.answerDisplayTest module s).state.sj = s.sj ∧
    (State.answerDisplayTest module s).state.sps = s.sps ∧
    (State.answerDisplayTest module s).state.sus = s.sus := by
  simp only [State.answerDisplayTest]
  (repeat' split) <;> simp

@[simp] theorem State.answerClearFault_frame (target : Byte) (s : State) :
    (State.answerClearFault target s).state.pending = s.pending ∧
    (State.answerClearFault target s).state.resetHeld = s.resetHeld ∧
    (State.answerClearFault target s).state.pins = s.pins ∧ (State.answerClearFault target s).state.clp = s.clp ∧
    (State.answerClearFault target s).state.nu = s.nu ∧ (State.answerClearFault target s).state.fpc = s.fpc ∧
    (State.answerClearFault target s).state.pru = s.pru ∧ (State.answerClearFault target s).state.dbc = s.dbc ∧
    (State.answerClearFault target s).state.riu = s.riu ∧ (State.answerClearFault target s).state.sj = s.sj ∧
    (State.answerClearFault target s).state.sps = s.sps ∧ (State.answerClearFault target s).state.sus = s.sus := by
  simp only [State.answerClearFault]
  (repeat' split) <;> simp

@[simp] theorem State.answerStagePrices_frame (activation : Byte) (seconds : BitVec 24) (es : PerGrade RawPrice) (s : State) :
    (State.answerStagePrices activation seconds es s).state.pending = s.pending ∧
    (State.answerStagePrices activation seconds es s).state.resetHeld = s.resetHeld ∧
    (State.answerStagePrices activation seconds es s).state.pins = s.pins ∧
    (State.answerStagePrices activation seconds es s).state.clp = s.clp ∧
    (State.answerStagePrices activation seconds es s).state.miu = s.miu ∧
    (State.answerStagePrices activation seconds es s).state.psg = s.psg ∧
    (State.answerStagePrices activation seconds es s).state.riu = s.riu ∧
    (State.answerStagePrices activation seconds es s).state.sj = s.sj ∧
    (State.answerStagePrices activation seconds es s).state.sps = s.sps := by
  simp only [State.answerStagePrices]
  (repeat' split) <;> simp

@[simp] theorem State.frameError_frame (s : State) :
    s.frameError.pending = s.pending ∧ s.frameError.resetHeld = s.resetHeld ∧ s.frameError.pins = s.pins ∧
    s.frameError.nu = s.nu ∧ s.frameError.miu = s.miu ∧ s.frameError.fpc = s.fpc ∧ s.frameError.psg = s.psg ∧
    s.frameError.pru = s.pru ∧ s.frameError.dbc = s.dbc ∧ s.frameError.riu = s.riu ∧ s.frameError.sj = s.sj ∧
    s.frameError.sps = s.sps ∧ s.frameError.sus = s.sus := by
  simp only [State.frameError]
  (repeat' split) <;> simp [Answer.taken]

@[simp] theorem State.frameRefused_frame (s : State) (kind : Byte) (r : Result) :
    (s.frameRefused kind r).pending = s.pending ∧ (s.frameRefused kind r).resetHeld = s.resetHeld ∧
    (s.frameRefused kind r).pins = s.pins ∧ (s.frameRefused kind r).nu = s.nu ∧
    (s.frameRefused kind r).miu = s.miu ∧ (s.frameRefused kind r).fpc = s.fpc ∧
    (s.frameRefused kind r).psg = s.psg ∧ (s.frameRefused kind r).pru = s.pru ∧
    (s.frameRefused kind r).dbc = s.dbc ∧ (s.frameRefused kind r).riu = s.riu ∧ (s.frameRefused kind r).sj = s.sj ∧
    (s.frameRefused kind r).sps = s.sps ∧ (s.frameRefused kind r).sus = s.sus := by
  simp only [State.frameRefused]
  (repeat' split) <;> simp [Answer.taken]

@[simp] theorem State.afterRequest_frame (s : State) (r : Request) :
    (s.afterRequest r).pending = s.pending ∧ (s.afterRequest r).resetHeld = s.resetHeld ∧
    (s.afterRequest r).pins = s.pins ∧ (s.afterRequest r).clp = s.clp ∧ (s.afterRequest r).psg = s.psg ∧
    (s.afterRequest r).riu = s.riu ∧ (s.afterRequest r).sj = s.sj ∧ (s.afterRequest r).sus = s.sus := by
  simp only [State.afterRequest]
  (repeat' split) <;> simp

@[simp] theorem State.writeComplete_frame (s : State) :
    s.writeComplete.pending = s.pending ∧ s.writeComplete.resetHeld = s.resetHeld ∧ s.writeComplete.pins = s.pins ∧
    s.writeComplete.nu = s.nu ∧ s.writeComplete.miu = s.miu ∧ s.writeComplete.fpc = s.fpc ∧
    s.writeComplete.psg = s.psg ∧ s.writeComplete.pru = s.pru ∧ s.writeComplete.dbc = s.dbc ∧
    s.writeComplete.riu = s.riu ∧ s.writeComplete.sj = s.sj ∧ s.writeComplete.sps = s.sps := by
  simp only [State.writeComplete]
  (repeat' split) <;> simp

@[simp] theorem State.withFetchWord_frame (s : State) (nbits w : Nat) :
    (s.withFetchWord nbits w).resetHeld = s.resetHeld ∧ (s.withFetchWord nbits w).pins = s.pins ∧
    (s.withFetchWord nbits w).clp = s.clp ∧ (s.withFetchWord nbits w).nu = s.nu ∧
    (s.withFetchWord nbits w).miu = s.miu ∧ (s.withFetchWord nbits w).fpc = s.fpc ∧
    (s.withFetchWord nbits w).psg = s.psg ∧ (s.withFetchWord nbits w).pru = s.pru ∧
    (s.withFetchWord nbits w).dbc = s.dbc ∧ (s.withFetchWord nbits w).riu = s.riu ∧
    (s.withFetchWord nbits w).sj = s.sj ∧ (s.withFetchWord nbits w).sps = s.sps ∧
    (s.withFetchWord nbits w).sus = s.sus := by
  simp only [State.withFetchWord]
  (repeat' split) <;> simp

end Sys2Proof.Machine
end

