-- ==== Sys2Proof/Laws/Commands.lean ====
section
/-! SUPPORT. The shapes a command has: take and takeFp, a message, a good answer of the reader, a frame
gathered. What each gives, and how a property of states passes through it. -/

namespace Sys2Proof.Machine

variable {s t : State} {f : State → State} {P : State → Prop}

/-! ### take and takeFp -/

theorem State.live_of_free (h : s.resetHeld = none) : s.live f = f s := by simp [State.live, h]

theorem State.live_of_held (h : s.resetHeld.isSome) : s.live f = s := by simp [State.live, h]

theorem State.take_of_free (h : s.resetHeld = none) : s.take f = .next (f s) := by
  simp [State.take, State.live_of_free h]

theorem State.take_of_held (h : s.resetHeld.isSome) : s.take f = .next s := by
  simp [State.take, State.live_of_held h]

theorem State.takeFp_of_free (h : s.resetHeld = none) : s.takeFp f = .next ((f s).afterFp s) :=
  State.take_of_free h

theorem State.takeFp_of_held (h : s.resetHeld.isSome) : s.takeFp f = .next s := State.take_of_held h

/-- A command that leaves both fueling points in their states makes no shutting test (R166). -/
theorem State.afterFp_of_same {before : State} (h : ∀ i, (s.fp i).state = (before.fp i).state) :
    s.afterFp before = s := by
  simp [State.afterFp, h]

/-- Outside CLOSING there is no shutting test (R166). -/
theorem State.afterFp_of_not_closing {before : State} (h : s.sps.seq ≠ .closing) : s.afterFp before = s := by
  simp [State.afterFp, State.shuttingTest, h]

/-- A property that a command's effect keeps holds of the next state. -/
theorem State.take_preserves (hf : ∀ x, P x → P (f x)) (h : s.take f = .next t) (hs : P s) : P t := by
  simp only [State.take, State.live, Host.Outcome.next.injEq] at h
  subst h
  split
  · exact hs
  · exact hf s hs

/-- A property that a command's effect and the shutting test keep holds of the next state. -/
theorem State.takeFp_preserves (hf : ∀ x, P x → P (f x)) (hc : ∀ x, P x → P x.shuttingTest)
    (h : s.takeFp f = .next t) (hs : P s) : P t := by
  refine State.take_preserves (fun x hx => ?_) h hs
  unfold State.afterFp
  split
  · exact hf x hx
  · exact hc _ (hf x hx)

/-! ### A message (R202, R203) -/

section
variable {kind : Byte} {request : Request} {answer : State → Answer}

/-- With none outstanding and the sequencer not RECOVERING, the owning block answers. -/
theorem State.message_of_ready (h : s.clp.outstanding = none) (hr : s.sps.seq ≠ .recovering) :
    State.message kind request answer s = (answer (s.withClp s.clp.hunt)).taken (some request) kind := by
  simp [State.message, h, hr]

/-- With one outstanding, the frame is held or discarded. -/
theorem State.message_of_outstanding (h : s.clp.outstanding.isSome) :
    State.message kind request answer s =
      s.withClp (s.clp.hunt.hold ⟨replyKind kind, .busy, .none⟩) := by
  simp [State.message, h, State.withClp]

/-- A property of states that the link's registers do not bear on passes through a message if the answer keeps it. -/
theorem State.message_preserves (hc : ∀ x c, P x → P (x.withClp c)) (ha : ∀ x, P x → P (answer x).state)
    (hs : P s) : P (State.message kind request answer s) := by
  unfold State.message Answer.taken State.code State.reply
  simp only []
  (repeat' split)
  · exact hc _ _ (hc _ _ hs)
  · exact hc _ _ (hc _ _ hs)
  · exact hc _ _ (ha _ (hc _ _ hs))

end

/-! ### Answers of the reader (R114, R115, R126) -/

theorem State.goodAnswer_preserves {permits : Policy → Bool} (ho : ∀ x, P x → P (x.takeOutcome .good))
    (hr : ∀ x, P x → P x.reject) (ht : ∀ x, P x → P x.textTest) (hf : ∀ x, P x → P (f x)) (hs : P s) :
    P (s.goodAnswer permits f) := by
  unfold State.goodAnswer
  split
  · simp only []
    apply ht
    (repeat' split)
    · exact ho _ hs
    · exact hf _ (ho _ hs)
    · exact hr _ (ho _ hs)
  · exact hs

theorem State.withReply_preserves {judge : State → ReaderFrame × State} (hr : ∀ x r, P x → P (x.withRiu r))
    (hj : ∀ x, P x → P (judge x).2) (hs : P s) : P (s.withReply judge) := by
  unfold State.withReply
  split
  · exact hr _ _ (hj _ (hr _ _ hs))
  · exact hr _ _ hs

/-! ### Gathering a frame (R201) -/

/-- A byte short of the end of a frame only joins the buffer (R201). -/
theorem Clp.gather_middle {c : Clp} {pre : List Byte} {n b : Byte} (hr : c.receiver = .receiving)
    (hb : c.buffer = 0xC3#8 :: n :: pre) (hl : pre.length + 1 < n.toNat + 2) :
    c.gather b = ({ c with buffer := 0xC3#8 :: n :: (pre ++ [b]) }, none) := by
  simp [Clp.gather, hr, hb, fieldNat, natOfBytes]
  omega

/-- The last byte of a frame completes it, and the receiver hunts again (R201). -/
theorem Clp.gather_last {c : Clp} {pre : List Byte} {n b : Byte} (hr : c.receiver = .receiving)
    (hb : c.buffer = 0xC3#8 :: n :: pre) (hl : pre.length + 1 = n.toNat + 2) :
    c.gather b = (c.hunt, some (n :: (pre ++ [b]))) := by
  have h : pre.length + 3 = n.toNat + 4 := by omega
  simp [Clp.gather, hr, hb, fieldNat, natOfBytes, h]

/-- The rest of a frame that is under way completes it (R201). -/
theorem State.receive_rest {n : Byte} : ∀ (post : List Byte) (pre : List Byte) (s : State),
    s.clp.receiver = .receiving → s.clp.buffer = 0xC3#8 :: n :: pre → post ≠ [] →
    pre.length + post.length = n.toNat + 2 →
    s.receive post = (s.withClp s.clp.hunt).judgeFrame (n :: (pre ++ post))
  | [], _, _, _, _, h, _ => absurd rfl h
  | [b], pre, s, hr, hb, _, hl => by
    have g := Clp.gather_last (b := b) hr hb (by simpa using hl)
    simp [State.receive, State.receiveByte, g]
  | b :: c :: post, pre, s, hr, hb, _, hl => by
    simp only [List.length_cons] at hl
    have g := Clp.gather_middle (b := b) hr hb (by omega)
    have e : s.receiveByte b = s.withClp { s.clp with buffer := 0xC3#8 :: n :: (pre ++ [b]) } := by
      simp [State.receiveByte, g]
    have ih := State.receive_rest (n := n) (c :: post) (pre ++ [b]) (s.receiveByte b)
      (by rw [e]; exact hr) (by rw [e]; rfl) (by simp) (by simp; omega)
    calc s.receive (b :: c :: post) = (s.receiveByte b).receive (c :: post) := rfl
      _ = _ := by rw [ih, e]; simp [Clp.hunt, State.withClp]

/-- A complete frame after its sync byte is judged once, with the receiver HUNTING (R201). -/
theorem State.receive_frame {s : State} {bs : List Byte} (hr : s.clp.receiver = .receiving)
    (hb : s.clp.buffer = [0xC3#8]) (h : frameComplete bs = true) :
    s.receive bs = (s.withClp s.clp.hunt).judgeFrame bs := by
  cases bs with
  | nil => simp [frameComplete, fieldNat, natOfBytes] at h
  | cons n rest =>
    simp [frameComplete, fieldNat, natOfBytes] at h
    obtain ⟨⟨h1, h2⟩, h3⟩ := h
    have hn : badLengthByte n = false := by simp [badLengthByte]; omega
    have hf : ¬ (2 = n.toNat + 4) := by omega
    have e : s.receiveByte n = s.withClp { s.clp with buffer := [0xC3#8, n] } := by
      simp [State.receiveByte, Clp.gather, hr, hb, hn, fieldNat, natOfBytes]
    have ih := State.receive_rest (n := n) rest [] (s.receiveByte n) (by rw [e]; exact hr) (by rw [e]; rfl)
      (by intro h; simp [h] at h3) (by simp; omega)
    calc s.receive (n :: rest) = (s.receiveByte n).receive rest := rfl
      _ = _ := by rw [ih, e]; simp [Clp.hunt, State.withClp]

/-- In HUNTING, bytes other than C3h leave the receiver HUNTING with an empty buffer and nothing else changed (R201). -/
theorem State.receive_hunting : ∀ (bs : List Byte) (s : State), s.clp.receiver = .hunting → s.clp.buffer = [] →
    (0xC3#8 : Byte) ∉ bs → s.receive bs = s
  | [], _, _, _, _ => rfl
  | b :: bs, s, hr, hb, h => by
    have hc : ¬ b = 0xC3#8 := fun e => h (by simp [e])
    have e : s.receiveByte b = s := by
      have hh : s.clp.hunt = s.clp := by simp [Clp.hunt, ← hr, ← hb]
      simp [State.receiveByte, Clp.gather, hr, Clp.examine, hc, hh, State.withClp]
    calc s.receive (b :: bs) = (s.receiveByte b).receive bs := rfl
      _ = s := by rw [e]; exact State.receive_hunting bs s hr hb (fun m => h (by simp [m]))

end Sys2Proof.Machine
end

