-- ==== Sys2Proof/Laws/Journal.lean ====
section
/-! SUPPORT. The sale journal and the totalizer store: what each operation does to the slots, the next sequence
number, the totals and the check word. -/

namespace Sys2Proof.Machine

/-! ### Slots -/

@[simp] theorem Sj.slot_put (j : Sj) (i k : Fin 32) (e : Option Entry) :
    (j.put i e).slot k = if k = i then e else j.slot k := by
  simp only [Sj.put, Sj.slot, Vector.get_eq_getElem, Vector.getElem_set]
  split <;> split <;> simp_all [Fin.ext_iff]

@[simp] theorem Sj.put_rest (j : Sj) (i : Fin 32) (e : Option Entry) :
    (j.put i e).nextSeq = j.nextSeq ∧ (j.put i e).totals = j.totals ∧ (j.put i e).checkWord = j.checkWord ∧
    (j.put i e).totalsCorrupt = j.totalsCorrupt ∧ (j.put i e).anticipation = j.anticipation ∧
    (j.put i e).holdCandidates = j.holdCandidates ∧ (j.put i e).lowArmed = j.lowArmed ∧
    (j.put i e).holdEntries = j.holdEntries := by
  simp [Sj.put]

/-- The slots alone decide what a slot holds. -/
theorem Sj.slot_of_slots {j k : Sj} (h : j.slots = k.slots) (i : Fin 32) : j.slot i = k.slot i := by
  simp [Sj.slot, h]

/-- What an operation on one slot may leave of the store: the slots as `slot` says, the rest of the counted items
unchanged. -/
structure Sj.OnlySlots (j k : Sj) (slot : Fin 32 → Option Entry) : Prop where
  slots : ∀ i, j.slot i = slot i
  nextSeq : j.nextSeq = k.nextSeq
  totals : j.totals = k.totals
  checkWord : j.checkWord = k.checkWord
  corrupt : j.totalsCorrupt = k.totalsCorrupt

theorem State.rearmLow_spec (s : State) : s.rearmLow.sj.OnlySlots s.sj s.sj.slot := by
  unfold State.rearmLow
  split <;> exact ⟨fun _ => rfl, rfl, rfl, rfl, rfl⟩

theorem State.lowTest_spec (s : State) : s.lowTest.sj.OnlySlots s.sj s.sj.slot := by
  unfold State.lowTest
  split <;> exact ⟨fun _ => rfl, rfl, rfl, rfl, rfl⟩

theorem State.changeEntry_spec (s : State) (i : Fin 32) (f : Entry → Entry) :
    (s.changeEntry i f).sj.OnlySlots s.sj (fun k => if k = i then (s.sj.slot i).map f else s.sj.slot k) := by
  unfold State.changeEntry
  exact ⟨fun k => by simp, by simp, by simp, by simp, by simp⟩

theorem State.freeSlot_spec (s : State) (i : Fin 32) :
    (s.freeSlot i).sj.OnlySlots s.sj (fun k => if k = i then none else s.sj.slot k) := by
  have h := State.rearmLow_spec (s.withSj (s.sj.put i none))
  unfold State.freeSlot
  exact ⟨fun k => by simp [h.slots], by simp [h.nextSeq], by simp [h.totals], by simp [h.checkWord], by
    simp [h.corrupt]⟩

/-! ### Totals and check word -/

theorem State.updateTotals_spec (s : State) (f : Totals → Totals) :
    (∀ i, (s.updateTotals f).sj.slot i = s.sj.slot i) ∧ (s.updateTotals f).sj.nextSeq = s.sj.nextSeq ∧
    (s.updateTotals f).sj.totals = f s.sj.totals ∧ (s.updateTotals f).sj.totalsCorrupt = s.sj.totalsCorrupt ∧
    (s.updateTotals f).sj.checkWord =
      (if s.sj.totalsCorrupt then s.sj.checkWord else (f s.sj.totals).check) := by
  exact ⟨fun _ => rfl, rfl, rfl, rfl, rfl⟩

/-! ### Reservation (R142, R143) -/

/-- What a reservation gives: the next sequence number, in a slot that was FREE or SETTLED. -/
theorem Sj.reserve_spec {j k : Sj} {f : Fp} {owner : Side} {token : Token} {limit : Limit} {level : Level}
    {e : EntryRef} (h : j.reserve f owner token limit level = some (e, k)) :
    e.seq = j.nextSeq ∧ k.nextSeq = j.nextSeq + 1 ∧ j.nextSeq ≤ 4294967295 ∧ j.chooseSlot = some e.slot ∧
      (∀ i, k.slot i = if i = e.slot then some (Entry.fresh j.nextSeq f owner token limit level) else j.slot i) ∧
      k.totals = j.totals ∧ k.checkWord = j.checkWord ∧ k.totalsCorrupt = j.totalsCorrupt := by
  unfold Sj.reserve at h
  split at h
  · simp at h
  · next hx =>
    split at h
    · simp at h
    · next i hi =>
      simp only [Option.some.injEq, Prod.mk.injEq] at h
      obtain ⟨rfl, rfl⟩ := h
      refine ⟨rfl, rfl, ?_, hi, fun k => ?_, rfl, rfl, rfl⟩
      · simpa [Sj.exhausted] using hx
      · exact Sj.slot_put _ _ _ _

/-! ### Recovery (R156) -/

/-- What recovery makes of one slot: RESERVED becomes FREE, ACTIVE becomes UNSETTLED with reason INTERRUPTED. -/
def recoveredEntry (now : Stamp) (o : Option Entry) : Option Entry :=
  match o with
  | none => none
  | some e =>
    match e.state with
    | .reserved => none
    | .active => some { e with state := .unsettled, ended := some (now, .interrupted) }
    | .unsettled => some e
    | .settled => some e

theorem State.recoverSlot_slot (s : State) (i k : Fin 32) :
    (s.recoverSlot i).sj.slot k = if k = i then recoveredEntry s.sps.time (s.sj.slot i) else s.sj.slot k := by
  unfold State.recoverSlot
  split
  · next h =>
    split
    · next hk => subst hk; simp [h, recoveredEntry]
    · rfl
  · next e h =>
    split
    · next he => simp [(s.freeSlot_spec i).slots, h, recoveredEntry, he]
    · next he =>
      simp only [State.withSps_sj]
      split
      · exact ((State.changeEntry_spec s i _).slots k).trans (by simp [h, recoveredEntry, he])
      · exact ((State.changeEntry_spec s i _).slots k).trans (by simp [h, recoveredEntry, he])
    · next he =>
      split
      · next hk => subst hk; simp [h, recoveredEntry, he]
      · rfl
    · next he =>
      split
      · next hk => subst hk; simp [h, recoveredEntry, he]
      · rfl

@[simp] theorem State.recoverSlot_time (s : State) (i : Fin 32) : (s.recoverSlot i).sps.time = s.sps.time := by
  simp only [State.recoverSlot]
  (repeat' split) <;> simp

/-- Recovery of a list of slots, each named once. -/
theorem State.recoverSlots_slot (l : List (Fin 32)) (hl : l.Nodup) (s : State) (k : Fin 32) :
    (l.foldl State.recoverSlot s).sj.slot k =
      if k ∈ l then recoveredEntry s.sps.time (s.sj.slot k) else s.sj.slot k := by
  induction l generalizing s with
  | nil => simp
  | cons i l ih =>
    obtain ⟨hi, hl⟩ := List.nodup_cons.mp hl
    rw [List.foldl_cons, ih hl, State.recoverSlot_time, State.recoverSlot_slot]
    by_cases hk : k = i
    · subst hk; simp [hi]
    · simp [hk]

theorem State.nameHold_spec (s : State) (f : Fp) : (s.nameHold f).sj.OnlySlots s.sj s.sj.slot := by
  unfold State.nameHold State.setCandidate
  simp only []
  (repeat' split) <;> exact ⟨fun _ => rfl, rfl, rfl, rfl, rfl⟩

/-- After recovery every slot is as R156 says. -/
theorem State.recoverJournal_slot (s : State) (k : Fin 32) :
    s.recoverJournal.sj.slot k = recoveredEntry s.sps.time (s.sj.slot k) := by
  unfold State.recoverJournal
  rw [(State.nameHold_spec _ _).slots, (State.nameHold_spec _ _).slots, State.recoverSlots_slot allSlots (List.nodup_finRange 32)]
  simp [allSlots]

end Sys2Proof.Machine
end

