-- ==== Sys2Proof/Laws/FuelingPoint.lean ====
section
/-! SUPPORT. The fueling point controller: what landing, locking, dropping, stopping and driving the valves do, each
said once. -/

namespace Sys2Proof.Machine

/-! ### One fueling point of two -/

theorem Fp.other_ne (f : Fp) : f.other ≠ f := by cases f <;> decide

@[simp] theorem PerFp.get_set_other {α : Type} (p : PerFp α) (f : Fp) (x : α) :
    (p.set f x).get f.other = p.get f.other := by cases f <;> rfl

@[simp] theorem PerFp.set_set {α : Type} (p : PerFp α) (f : Fp) (x y : α) : (p.set f x).set f y = p.set f y := by
  cases f <;> rfl

@[simp] theorem State.setFp_setFp (s : State) (f : Fp) (x y : Fpc) : (s.setFp f x).setFp f y = s.setFp f y := by
  simp [State.setFp, State.withFpc]

@[simp] theorem State.setFp_other (s : State) (f : Fp) (x : Fpc) : (s.setFp f x).fp f.other = s.fp f.other :=
  State.setFp_fp_of_ne _ _ _ _ (Fp.other_ne f)

/-! ### Landing and locking (R43, R44, R63) -/

/-- Landing changes only the state, the waiting condition and the sale nozzle. -/
theorem Fpc.land_spec (c : Fpc) :
    c.land = { c with
      state := if c.closedCauses.any then .closed else if c.upList.isEmpty then .idle else .calling
      waiting := if c.closedCauses.any then .none else if c.upList.isEmpty then .none else callingWait c.upList
      saleNozzle := none } := by
  unfold Fpc.land Fpc.close Fpc.openUp
  split
  · rfl
  · split <;> rfl

/-- A lock of a fueling point that is not LOCKED raises FP_LOCKED; one that is takes the further causes. -/
theorem State.lock_spec (s : State) (f : Fp) (causes : LockCauses) :
    ((s.fp f).state = .locked →
      s.lock f causes = s.setFp f { s.fp f with lockCauses := (s.fp f).lockCauses.union causes }) ∧
    ((s.fp f).state ≠ .locked →
      s.lock f causes =
        (s.setFp f { s.fp f with
          state := .locked, lockCauses := causes, noted := .empty, lockAfterSale := false, waiting := .none
          saleNozzle := none }).raiseFor .fpLocked f) :=
  ⟨fun h => by simp [State.lock, h], fun h => by simp [State.lock, h]⟩

/-! ### Drops (R48, R146) -/

/-- What a drop does, for the authorization held: the context lands without it, its slot is FREE, AUTH_ENDED is raised,
and the reader's queue is offered the push if the reader owns it. -/
theorem State.drop_spec {s : State} {f : Fp} {a : Auth} (cause : DropCause) (h : (s.fp f).auth = some a) :
    (s.drop f cause).fp f = (s.fp f).dropped ∧
      (s.drop f cause).fp f.other = s.fp f.other ∧
      (s.drop f cause).sj.OnlySlots s.sj (fun k => if k = a.slot then none else s.sj.slot k) ∧
      (s.drop f cause).nu = (s.raiseFor .authEnded f).nu ∧
      (s.drop f cause).riu = (if a.owner = .reader then s.riu.offer (.authEnded f a.seq cause) else s.riu) := by
  have e : s.drop f cause =
      (((s.freeSlot a.slot).setFp f ((s.freeSlot a.slot).fp f).dropped).raiseFor .authEnded f).pushEnded f a cause := by
    simp only [State.drop, h]
  have hs := s.freeSlot_spec a.slot
  have hc : ∀ g, (s.freeSlot a.slot).fp g = s.fp g := fun g => by simp [State.fp]
  rw [e]
  refine ⟨?_, ?_, ?_, ?_, ?_⟩
  · simp [State.fp, State.setFp]
  · simp [State.fp, State.setFp]
  · simpa using hs
  · simp [State.raiseFor, State.setFp]
  · cases ho : a.owner <;> simp [State.pushEnded, ho, State.push, State.raiseFor, State.setFp]

/-- A drop leaves the fueling point CLOSED, IDLE or CALLING, with no authorization and no expiry timer. -/
theorem Fpc.dropped_spec (c : Fpc) :
    c.dropped.auth = none ∧ c.dropped.expiryTimer = none ∧
      c.dropped.state = (if c.closedCauses.any then .closed else if c.upList.isEmpty then .idle else .calling) ∧
      c.dropped.closedCauses = c.closedCauses ∧ c.dropped.nozzleUp = c.nozzleUp ∧ c.dropped.sale = c.sale ∧
      c.dropped.valveL = c.valveL ∧ c.dropped.valveH = c.valveH := by
  simp only [Fpc.dropped, Fpc.land_spec, Fpc.upList]
  simp

/-! ### Stopping (R57) -/

/-- A stop touches its fueling point only. -/
theorem State.stopSale_spec {s : State} {f : Fp} {r : Sale} (cause : StopCause) (h : (s.fp f).sale = some r) :
    s.stopSale f cause = s.setFp f ((s.fp f).stopped s.sus.image r cause) := by
  simp only [State.stopSale, h]

/-- A stopped sale: STOPPING with its cause, valves shut, the run-out timer running, the duties held. -/
theorem Fpc.stopped_spec (c : Fpc) (i : Image) (r : Sale) (cause : StopCause) :
    (c.stopped i r cause).state = .stopping ∧ (c.stopped i r cause).stopCause = some cause ∧
      (c.stopped i r cause).valvesShut ∧ (c.stopped i r cause).runOutTimer = some (i.runOut * 1000) ∧
      (c.stopped i r cause).noFlowTimer = none ∧ (c.stopped i r cause).auth = c.auth ∧
      (c.stopped i r cause).sale =
        some { r with heldPhase := r.phase, heldL := r.dutyL, heldH := r.dutyH, dutyL := 0, dutyH := 0 } :=
  ⟨rfl, rfl, ⟨rfl, rfl⟩, rfl, rfl, rfl, rfl⟩

/-! ### Valves (R38, R39) -/

/-- Outside FUELING both valves are driven low. -/
theorem Fpc.driveValves_shut {c : Fpc} (pv : Nat) (h : c.state ≠ .fueling) : (c.driveValves pv).valvesShut := by
  have hd : ∀ p, c.dutyOf p = 0 := by
    intro p
    unfold Fpc.dutyOf
    split <;> simp_all
  exact ⟨by simp [Fpc.driveValves, driveValve, hd], by simp [Fpc.driveValves, driveValve, hd]⟩

/-! ### The shutting test after a command (R166) -/

/-- A command on one fueling point that ends no sale and no authorization makes no shutting test. -/
theorem State.setFp_afterFp {s : State} {f : Fp} {c : Fpc} (h : c.state = (s.fp f).state) :
    (s.setFp f c).afterFp s = s.setFp f c :=
  State.afterFp_of_same fun i => by
    by_cases hi : i = f
    · subst hi; simp [h]
    · simp [hi]

end Sys2Proof.Machine
end

