-- ==== Sys2Proof/WellFormed.lean ====
section
/-! DEFINITION. Which commands can arise: operands that no event, frame or message could carry are ill-formed.
`exec` answers for those too; a statement may leave them out. -/

namespace Sys2Proof

/-- The ambient sensor reads −40..85 °C (Table 8-1). -/
def Instr.ambientOk (celsius : Int) : Bool := decide (-40 ≤ celsius) && decide (celsius ≤ 85)

/-- A prompt that a good answer carries has 1..32 bytes (Table 6-3). -/
def Instr.promptOk (text : List Byte) : Bool := decide (1 ≤ text.length) && decide (text.length ≤ 32)

/-- A control frame carries at most 120 bytes of payload (R201). -/
def Instr.textOk (text : List Byte) : Bool := decide (text.length ≤ 120)

/-- The meter form of CLEAR_FAULT has a target that is no pump's (Table 10-6). -/
def Instr.meterTargetOk (target : Byte) : Bool := decide (target ≠ 0x81#8) && decide (target ≠ 0x82#8)

/-- The checks on each command's operands; a command with none has operands of every value. -/
def Instr.wf : Instr → Bool
  | .ambientReading celsius => Instr.ambientOk celsius
  | .prompt _ text => Instr.promptOk text
  | .sendToReader text => Instr.textOk text
  | .clearFaultMeter target => Instr.meterTargetOk target
  | .controlLengthReject length => Machine.badLengthByte length
  | .controlFrameComplete bytes => Machine.frameComplete bytes.content
  | .powerOnReset _ => true
  | .resetPin => true
  | .resetEnd _ => true
  | .recoveryStageEnd => true
  | .meterInputEdge _ _ _ _ => true
  | .rateBinTimerExpiry => true
  | .recentFlagExpiry _ => true
  | .valveIntervalExpiry _ _ => true
  | .nozzleSwitchChange _ _ _ => true
  | .nozzleLift _ _ => true
  | .nozzleHang _ _ => true
  | .authExpiry _ => true
  | .noFlowExpiry _ => true
  | .runOutExpiry _ => true
  | .inrushGapExpiry => true
  | .pumpFeedbackAsserted _ => true
  | .pumpFeedbackReleased _ => true
  | .pumpFeedbackTimerExpiry _ => true
  | .pumpPrimeExpiry _ => true
  | .pumpRunOnExpiry _ => true
  | .timeOfDayStep => true
  | .closeGraceExpiry => true
  | .stageSettleExpiry => true
  | .heatTimerExpiry => true
  | .creepWatchExpiry => true
  | .holdTimerExpiry _ => true
  | .powerWarning => true
  | .powerWarningRelease => true
  | .readerCycleExpiry => true
  | .autoCycleHoldoffExpiry => true
  | .readerWaitingExpiry => true
  | .exchangeTimerExpiry => true
  | .readerFrameSent => true
  | .readerAnswerWindowClose => true
  | .readerReceiveError => true
  | .readerIdle _ => true
  | .authReq _ _ _ _ _ _ _ => true
  | .authCancel _ _ => true
  | .saleQuery _ => true
  | .settle _ _ _ => true
  | .textAck _ _ => true
  | .fieldUpdateStart => true
  | .displayWriteEnd _ => true
  | .displayCheckEnd _ => true
  | .busError => true
  | .busRecoveryEnd _ => true
  | .fieldStale _ _ => true
  | .storeWriteComplete => true
  | .controlByteTimeout _ => true
  | .replySent => true
  | .getStatus _ => true
  | .getNotices => true
  | .clearNotices _ => true
  | .setTime _ _ => true
  | .siteOpen => true
  | .siteClose => true
  | .restart _ => true
  | .setSchedule _ _ => true
  | .setNoticeEnables _ => true
  | .authorize _ _ _ _ _ _ _ => true
  | .cancelAuth _ => true
  | .stopFp _ => true
  | .fpStatus _ => true
  | .clearLock _ => true
  | .clearFaultPump _ => true
  | .stagePricesAt _ _ => true
  | .stagePricesNow _ _ => true
  | .cancelPrices => true
  | .priceStatus => true
  | .readSale _ _ => true
  | .settleSale _ _ => true
  | .takeOver _ => true
  | .journalStatus => true
  | .readTotals _ => true
  | .readerStatus => true
  | .readerRelease => true
  | .readerPowerCycle => true
  | .abortToReader => true
  | .readPassthrough => true
  | .clearOverrun => true
  | .setReaderPolicy _ _ _ _ => true
  | .enterSetup => true
  | .leaveSetup => true
  | .setItem _ _ _ => true
  | .getItem _ _ => true
  | .setMeter _ _ _ => true
  | .readAudit _ => true
  | .displayTest _ => true
  | .controlSyncByte => true

end Sys2Proof
end

