-- ==== Sys2Proof/Tests/Slice0.lean ====
section
/-! SUPPORT. Tests of the model on small states: the WellFormed checks, worked examples of the manual, and for every
statement with hypotheses a state and operands that meet them. -/

namespace Sys2Proof.Tests

open Sys2Proof.Machine

/-! ### Small states -/

/-- The state after a command, for tests that follow one command. -/
def go (c : Instr) (s : State) : State :=
  match exec c s with
  | .next t => t
  | .fault _ => s
  | .refused _ => s

/-- No closed cause. -/
def noCause : ClosedCauses := ⟨false, false, false, false, false⟩

/-- A fueling point open and idle, all nozzles hung. -/
def idleFp : Fpc := { Fpc.atReset with state := .idle, closedCauses := noCause }

/-- A field that shows its wanted value. -/
def shown (m : ModuleId) (p : FieldPos) (w : Wanted) : Field := ⟨w, false, some (wantedCodes m p w), none, false⟩

/-- A module that is OK and shows its wanted values. -/
def okModule (m : ModuleId) (a b c : Wanted) : Module :=
  ⟨0x20, .ok, .none, ⟨shown m .f1 a, shown m .f2 b, shown m .f3 c⟩⟩

/-- In OPEN: everything powered, every display OK, the reader ACTIVE, G1 to G3 priced and proved at generation 1. -/
def opened : State :=
  { State.reset with
    fpc := .both idleFp
    psg := { State.reset.psg with sinceStart := 5000000 }
    pru :=
      { State.reset.pru with
        current := ⟨some ⟨1499, 1399⟩, some ⟨1699, 1599⟩, some ⟨1599, 1499⟩, none, none, none⟩
        panelVerified := .both (some 1) }
    dbc :=
      { State.reset.dbc with
        modules :=
          ⟨okModule .mod1 (.number 0) (.number 0) .blank, okModule .mod2 (.number 0) (.number 0) .blank,
            okModule .mod3 (.number 1499) (.number 1599) (.number 1699),
            okModule .mod4 (.number 1499) (.number 1599) (.number 1699)⟩ }
    riu := { State.reset.riu with link := .active, exchangeTimer := some 100000 }
    sps :=
      { State.reset.sps with
        seq := .opened, stage := .none, wantedOpen := true, pulserSupply := true, displaySupply := true
        domain := .on, opened := true } }

/-- The sequencer in a state and stage. -/
def staged (s : State) (q : SeqState) (g : Stage) : State := s.withSps { s.sps with seq := q, stage := g }

/-- In NIGHT. -/
def night : State := staged State.reset .night .none

/-- A MONEY authorization of an owner, slot 0, sequence number 1. -/
def auth (o : Side) : Auth := ⟨o, 7, .money 2000, .level1, 0x3F, 120, Stamp.lost, 0, 1⟩

/-- Its entry. -/
def entry (o : Side) (st : EntryState) : Entry :=
  ⟨st, 1, .fp1, o, 7, .money 2000, .level1,
    match st with
    | .reserved => none
    | _ => some ⟨.g1, 1499, 1, 13339, Stamp.lost, 0, 0, 0, 0⟩,
    none, RecordFlags.empty, none, none⟩

/-- The journal with one entry in slot 0. -/
def holding (e : Entry) : Sj := { Sj.delivered.put 0 (some e) with nextSeq := 2 }

/-- Sale registers of a sale of G1 with 2000 cents as its limit. -/
def sale : Sale :=
  { grade := .g1, level := .level1, t := 0, accL := 0, accH := 0, volume := 0, volumeCl := 0, money := 0
    price := 1499, limit := .money 2000, target := 13339, slowPoint := 13039, closePoint := 13319
    closeKind := .preset, an := 20, phase := some .fast, topUpDone := false, presetClosed := false
    dutyL := 1000, dutyH := 0, heldPhase := none, heldL := 0, heldH := 0, hung := false, deltaL := 0
    deltaH := 0
    flags := RecordFlags.empty, overShort := none }

/-- FP1 in OPEN with an authorization of an owner. -/
def armed (o : Side) : State :=
  (opened.setFp .fp1 { idleFp with state := .armed, auth := some (auth o), expiryTimer := some 120000000 }).withSj
    (holding (entry o .reserved))

/-- FP1 in OPEN in a sale of nozzle 1, its pump RUNNING. -/
def inSaleState (st : FpState) (r : Sale) (cause : Option StopCause) : State :=
  ((opened.setFp .fp1
    { idleFp with
      state := st, auth := some (auth .control), nozzleUp := ⟨true, false, false⟩, saleNozzle := some .n1
      sale := some r, stopCause := cause
      noFlowTimer := if st = .fueling then some 60000000 else none
      runOutTimer := if st = .stopping then some 1500000 else none }).withSj
    (holding (entry .control .active))).setPump .pumpL ⟨.running, 1, .none, none, none, none⟩

def fueling : State := inSaleState .fueling sale none
def stopping (c : StopCause) (r : Sale) : State := inSaleState .stopping { r with dutyL := 0, phase := none } (some c)
def starting : State := inSaleState .starting { sale with phase := none, dutyL := 0 } none

/-- A reader exchange whose answer is awaited. -/
def awaited (s : State) : State := s.withRiu { s.riu with exchange := some ⟨.poll, true⟩ }

theorem test_target_of_the_sale : targetOf sale.limit sale.price = sale.target := by decide

/-- The body of the reply made. -/
def bodyOf (s : State) : Option Body := s.clp.outstanding.map (fun o => o.reply.body)

/-- The result code of the reply made. -/
def resultOf (s : State) : Option Result := s.clp.outstanding.map (fun o => o.reply.result)

/-! ### States and operands that meet the hypotheses of the statements -/

theorem witness_IdleStepIsOneMicrosecond : opened.pending = [] := rfl

/-- A state with the pin reset in force. -/
def heldByPin : State := opened.withResetHeld (some .pin)

theorem witness_HeldResetTakesNoEffect :
    heldByPin.resetHeld.isSome ∧ (∀ b, Instr.siteOpen ≠ .powerOnReset b) ∧ Instr.siteOpen ≠ .resetPin ∧
      (∀ x, Instr.siteOpen ≠ .resetEnd x) ∧ exec .siteOpen heldByPin = .next heldByPin :=
  ⟨rfl, nofun, nofun, nofun, rfl⟩

/-- A RESTART with its reply being sent. -/
def restarting : State := go (.restart 0) opened

theorem witness_ResetsResetAlikeAndEndInRecovering :
    (restarting.resetHeld = none ∧ restarting.clp.sending = .reply ∧
      ∃ o, restarting.clp.outstanding = some o ∧ o.restarts = true) ∧
      opened.resetHeld = none ∧ heldByPin.resetHeld = some .pin :=
  ⟨by decide, rfl, rfl⟩

theorem holding_slot_eq (e : Entry) (k : Fin 32) : (holding e).slot k = if k = 0 then some e else none := by
  have h : (holding e).slot k = (Sj.delivered.put 0 (some e)).slot k := rfl
  have d : ∀ k, Sj.delivered.slot k = none := by decide
  rw [h, Sj.slot_put, d]

/-- The journal with one entry holds that one only. -/
theorem holding_slot {e d : Entry} {k : Fin 32} (h : (holding e).slot k = some d) : k = 0 ∧ d = e := by
  rw [holding_slot_eq] at h
  split at h <;> simp_all

theorem check_delivered : Sj.delivered.checkWord = Sj.delivered.totals.check := by
  simp only [Sj.delivered]

/-- In RECOVERING with one entry in slot 0 and a hold candidate of FP1. -/
def recovering (e : Entry) (c : Option EntryRef) : State :=
  State.reset.withSj { holding e with holdCandidates := ⟨c, none⟩ }

/-- An entry that a freeze ended. -/
def frozenEntry : Entry := { entry .control .unsettled with ended := some (Stamp.lost, .powerLoss) }

theorem recovering_slot {e d : Entry} {c : Option EntryRef} {k : Fin 32}
    (h : (recovering e c).sj.slot k = some d) : k = 0 ∧ d = e := by
  have : (recovering e c).sj.slots = (holding e).slots := rfl
  rw [Sj.slot, this] at h
  exact holding_slot h

theorem fresh_recovering (e : Entry) (c : Option EntryRef) : (recovering e c).recoveringFresh :=
  fun _ => ⟨rfl, rfl, rfl, fun f => by cases f <;> exact ⟨rfl, rfl, rfl, rfl⟩⟩

/-- In RECOVERING with a check word of its own. -/
def miscounted (w : BitVec 16) : State := State.reset.withSj { Sj.delivered with checkWord := w }

theorem checkWord_recovering (e : Entry) (c : Option EntryRef) :
    (recovering e c).sj.totals.check = (recovering e c).sj.checkWord := by
  simp only [recovering, State.withSj, holding, Sj.put, Sj.delivered]

theorem checkWord_miscounted : ∃ w, (miscounted w).sj.totals.check ≠ (miscounted w).sj.checkWord := by
  refine ⟨Totals.delivered.check + 1, ?_⟩
  generalize hw : Totals.delivered.check = w
  have h : (miscounted (w + 1)).sj.totals = Totals.delivered := rfl
  have k : (miscounted (w + 1)).sj.checkWord = w + 1 := rfl
  rw [h, k, hw]
  bv_omega

theorem witness_RecoveryPutsRetainedStateInOrder :
    (State.reset.resetHeld = none ∧ State.reset.sps.seq = .recovering ∧ State.reset.recoveringFresh ∧
      false = decide (State.reset.sus.stored.check = some (crc16 State.reset.sus.stored.items.bytes))) ∧
      (∃ s x, x = State.reset.sus.stored.items ∧
        s = State.reset.withSus { State.reset.sus with stored := ⟨x, some (crc16 x.bytes)⟩ } ∧ s.resetHeld = none ∧
        s.sps.seq = .recovering ∧ s.recoveringFresh ∧
        true = decide (s.sus.stored.check = some (crc16 s.sus.stored.items.bytes))) ∧
      (∃ s, s = recovering (entry .control .active) none ∧ s.recoveringFresh ∧
        s.sj.slot 0 = some (entry .control .active) ∧ (entry .control .active).state = .active ∧
        (entry .control .active).sale.isSome ∧ (∀ k d, s.sj.slot k = some d → d.state = .active → k = 0) ∧
        s.sj.totals.check = s.sj.checkWord) ∧
      ((∀ w, (miscounted w).recoveringFresh) ∧ ∃ w, (miscounted w).sj.totals.check ≠ (miscounted w).sj.checkWord) ∧
      ∃ s, s = recovering frozenEntry (some ⟨0, 1⟩) ∧ s.recoveringFresh ∧
        (∀ i e, s.sj.slot i = some e → e.state ≠ .active) ∧ s.sj.holdCandidates.get .fp1 = some ⟨0, 1⟩ ∧
        s.sj.holdCandidates.get .fp2 = none ∧ s.sj.slot 0 = some frozenEntry :=
  ⟨⟨rfl, rfl, fun _ => ⟨rfl, rfl, rfl, fun f => by cases f <;> exact ⟨rfl, rfl, rfl, rfl⟩⟩, rfl⟩,
    ⟨_, _, rfl, rfl, rfl, rfl, fun _ => ⟨rfl, rfl, rfl, fun f => by cases f <;> exact ⟨rfl, rfl, rfl, rfl⟩⟩,
      (decide_eq_true rfl).symm⟩,
    ⟨_, rfl, fresh_recovering _ _, rfl, rfl, rfl, fun _ _ h _ => (recovering_slot h).1, checkWord_recovering _ _⟩,
    ⟨fun _ _ => ⟨rfl, rfl, rfl, fun f => by cases f <;> exact ⟨rfl, rfl, rfl, rfl⟩⟩, checkWord_miscounted⟩,
    _, rfl, fresh_recovering _ _, fun _ _ h => by rw [(recovering_slot h).2]; decide, rfl, rfl, rfl⟩

/-- The state with time passed and the line of A at 1. -/
def edge (m : Meter) (elapsed : Nat) (s : State) : State :=
  (s.advance elapsed).withPins ((s.advance elapsed).pins.withLine m .a true)

theorem witness_EdgesThatDecideNothing :
    (night.resetHeld = none ∧ night.sps.pulserSupply = false) ∧
      (opened.resetHeld = none ∧ opened.sps.pulserSupply = true ∧
        ((edge .m1 19 opened).miu.clock - ((edge .m1 19 opened).meter .m1).lastEdge .a).toNat < 20) ∧
      ∃ s, s = opened.setMeter .m1 { opened.meter .m1 with faulty := true, cause := .reverse } ∧ s.resetHeld = none ∧
        s.sps.pulserSupply = true ∧ 20 ≤ ((edge .m1 20 s).miu.clock - ((edge .m1 20 s).meter .m1).lastEdge .a).toNat ∧
        true ≠ ((edge .m1 20 s).meter .m1).level .a ∧ ((edge .m1 20 s).meter .m1).faulty = true :=
  ⟨by decide, by decide, _, rfl, by decide⟩

/-- What the pulse statements ask of an OK meter with A low. -/
def pulseReady (m : Meter) (elapsed : Nat) (s : State) : Bool :=
  decide (s.resetHeld = none) && s.sps.pulserSupply && !(s.meter m).faulty && !(s.meter m).levelA
    && decide ((s.meter m).aRun < 5) && decide (20 ≤ ((edge m elapsed s).miu.clock - (s.meter m).lastEdgeA).toNat)

/-- With every meter sampled and every all-ones match recorded. -/
def auditing (s : State) : State :=
  s.withSus { s.sus with image := { s.sus.image with auditEnable := true, sac := 1 } }

/-- In W4 with M1 one pulse below its creep watch. -/
def watching : State := (staged opened .waking .w4).setMeter .m1 { opened.meter .m1 with watchCount := 10 }

/-- In OPEN with M1 one pulse below its creep volume. -/
def creeping : State := opened.setMeter .m1 { opened.meter .m1 with creep := 99000001 }

theorem witness_ForwardPulseOutsideSaleIsUnassigned :
    ∀ s, s = opened ∨ s = auditing opened ∨ s = watching ∨ s = creeping ∨
        s = night.withSps { night.sps with pulserSupply := true } →
      pulseReady .m1 20 s = true ∧ (s.meter .m1).levelB = false ∧ (s.meter .m1).backlash = 0 ∧
        s.inSale Meter.m1.fp = false := by
  rintro s (rfl | rfl | rfl | rfl | rfl) <;> decide

theorem witness_ForwardPulseInSaleIsCharged :
    ∀ s, s = fueling ∨ s = auditing fueling ∨ s = starting ∨ s = stopping .preset sale ∨
        s = inSaleState .fueling { sale with t := 400, deltaL := 499000000, accL := 1999000000, volume := 1999 } none ∨
        s = inSaleState .fueling { sale with phase := some .topUp, accL := 13338000000, volume := 13338 } none →
      pulseReady .m1 20 s = true ∧ (s.meter .m1).levelB = false ∧ (s.meter .m1).backlash = 0 ∧
        s.inSale Meter.m1.fp = true ∧ (s.fp Meter.m1.fp).sale.isSome ∧
        (s.fp Meter.m1.fp).auth = some (auth .control) ∧ s.dbc.blanked = false ∧
        (s.module Meter.m1.fp.main).stage ≠ .pattern ∧ s.dbc.update = none := by
  rintro s (rfl | rfl | rfl | rfl | rfl | rfl) <;> decide

/-- The meter M1 with a backlash and the level of B. -/
def backlashed (n : Nat) (b : Bool) (s : State) : State :=
  s.setMeter .m1 { s.meter .m1 with backlash := n, levelB := b }

theorem witness_BacklashIsRepaidBeforeCredit :
    pulseReady .m1 20 (backlashed 1 false opened) = true ∧
      (((backlashed 1 false opened).meter .m1).levelB = false ∧ 0 < ((backlashed 1 false opened).meter .m1).backlash) ∧
      pulseReady .m1 20 (backlashed 19 true fueling) = true ∧ (backlashed 19 true fueling).inSale Meter.m1.fp = true ∧
      pulseReady .m1 20 (backlashed 20 true fueling) = true ∧ (backlashed 20 true fueling).inSale Meter.m1.fp = true ∧
      pulseReady .m1 20 (backlashed 0 true opened) = true ∧ (backlashed 0 true opened).inSale Meter.m1.fp = false := by
  decide

theorem witness_LostChannelLocksFuelingPoint :
    (∃ s u, s = opened.setMeter .m1 { opened.meter .m1 with aRun := 5, bRun := 5 } ∧
      u = (s.advance 20).withPins ((s.advance 20).pins.withLine .m1 .b true) ∧ s.resetHeld = none ∧
      s.sps.pulserSupply = true ∧ (s.meter .m1).faulty = false ∧ (s.fp Meter.m1.fp).state = .idle ∧
      s.sps.seq ≠ .closing ∧ (s.meter .m1).levelB = !true ∧ 20 ≤ (u.miu.clock - (s.meter .m1).lastEdgeB).toNat ∧
      (s.meter .m1).bRun = 5 ∧ (s.meter .m1).levelA = false ∧
      20 ≤ ((edge .m1 20 s).miu.clock - (s.meter .m1).lastEdgeA).toNat ∧ (s.meter .m1).aRun = 5 ∧
      (s.meter .m1).levelB = false ∧ (s.meter .m1).backlash = 0) ∧
      ∃ s2 u2, s2 = starting.setMeter .m1 { starting.meter .m1 with bRun := 5 } ∧
        u2 = (s2.advance 20).withPins ((s2.advance 20).pins.withLine .m1 .b true) ∧ s2.resetHeld = none ∧
        s2.sps.pulserSupply = true ∧ (s2.meter .m1).faulty = false ∧ s2.sps.seq ≠ .closing ∧
        (s2.fp Meter.m1.fp).state = .starting ∧ (s2.fp Meter.m1.fp).sale.isSome ∧
        (s2.fp Meter.m1.fp).auth = some (auth .control) ∧ (s2.meter .m1).levelB = !true ∧
        20 ≤ (u2.miu.clock - (s2.meter .m1).lastEdgeB).toNat ∧ (s2.meter .m1).bRun = 5 :=
  ⟨⟨_, _, rfl, rfl, by decide⟩, _, _, rfl, rfl, by decide⟩

theorem witness_MeterTimersExpire :
    ∃ s, s = opened.setMeter .m1 { opened.meter .m1 with recent := true, recentTimer := some 0 } ∧
      s.resetHeld = none ∧ (s.meter .m1).recentTimer.isSome :=
  ⟨_, rfl, by decide⟩

theorem witness_MoneyTargetIsLeastVolume :
    (1 ≤ 2000 ∧ 1 ≤ 1499 ∧ targetOf (.money 2000) 1499 < 999999 ∧ 13338 < targetOf (.money 2000) 1499) ∧
      1 ≤ 999899 ∧ 1 ≤ 100 ∧ ∀ w, w < 999999 → (w * 100 + 5000) / 10000 < 999899 :=
  ⟨by decide, by decide, by decide, fun w h => by omega⟩

/-! #### Fueling points and pumps -/

theorem witness_ValvePeriodsFollowTheDuty :
    ∃ s, s = fueling.setFp .fp1 { fueling.fp .fp1 with
        valveL := some ⟨250, true, some 0⟩, valveH := some ⟨1000, true, some 0⟩ } ∧
      s.resetHeld = none ∧ (s.fp .fp1).valveL = some ⟨250, true, some 0⟩ ∧
      (s.fp .fp1).valveH = some ⟨1000, true, some 0⟩ ∧ (s.fp .fp1).state = .fueling :=
  ⟨_, rfl, by decide⟩

theorem witness_LiftsAndHangsOutsideSales :
    (opened.resetHeld = none ∧ opened.sps.seq ≠ .closing ∧ (opened.fp .fp1).state = .idle ∧
      (opened.fp .fp1).nozzleUp.get .n1 = !true) ∧
      (∃ s, s = opened.setFp .fp1 { idleFp with state := .calling, nozzleUp := ⟨true, false, false⟩ } ∧
        s.resetHeld = none ∧ s.sps.seq ≠ .closing ∧ (s.fp .fp1).state = .calling ∧
        (s.fp .fp1).nozzleUp.get .n1 = !false ∧ (s.fp .fp1).nozzleUp.get .n2 = !true) ∧
      (∃ s, s = opened.setFp .fp1
          { idleFp with state := .ended, nozzleUp := ⟨true, false, false⟩, saleNozzle := some .n1 } ∧
        s.resetHeld = none ∧ s.sps.seq ≠ .closing ∧ (s.fp .fp1).state = .ended ∧
        (s.fp .fp1).saleNozzle = some .n1 ∧ (s.fp .fp1).saleNozzle ≠ some .n2 ∧
        (s.fp .fp1).nozzleUp.get .n1 = !false ∧ (s.fp .fp1).nozzleUp.get .n2 = !true) ∧
      ∀ st, st = .closed ∨ st = .locked →
        ((opened.setFp .fp1 { idleFp with state := st }).fp .fp1).state = st ∧
          ((opened.setFp .fp1 { idleFp with state := st }).fp .fp1).nozzleUp.get .n3 = !true :=
  ⟨by decide, ⟨_, rfl, by decide⟩, ⟨_, rfl, by decide⟩, fun _ _ => ⟨rfl, rfl⟩⟩

theorem witness_FuelingSaleStops :
    fueling.resetHeld = none ∧ (fueling.fp .fp1).state = .fueling ∧ (fueling.fp .fp1).sale = some sale ∧
      (fueling.fp .fp1).noFlowTimer.isSome ∧ (fueling.fp .fp1).saleNozzle = some .n1 ∧
      (fueling.fp .fp1).nozzleUp.get .n1 = true ∧
      starting.resetHeld = none ∧ (starting.fp .fp1).state = .starting ∧ (starting.fp .fp1).sale.isSome ∧
      (starting.fp .fp1).auth = some (auth .control) ∧ (starting.fp .fp1).saleNozzle = some .n1 ∧
      (starting.fp .fp1).nozzleUp.get .n1 = true ∧ starting.sps.seq ≠ .closing := by
  decide

theorem witness_ExpiryDropsAuthorization :
    ∀ o, (armed o).resetHeld = none ∧ ((armed o).fp .fp1).state = .armed ∧ ((armed o).fp .fp1).expiryTimer.isSome ∧
      ((armed o).fp .fp1).auth = some (auth o) ∧ (armed o).sps.seq ≠ .closing ∧ (auth o).owner = o ∧
      (armed o).riu.link = .active ∧ (armed o).riu.queue.length < 8 := by
  intro o; cases o <;> decide

theorem witness_RunOutEndsTheSale :
    (∃ s r, s = staged (stopping .nozzleHung sale) .closing .none ∧ (s.fp .fp1).sale = some r ∧ s.resetHeld = none ∧
      (s.fp .fp1).state = .stopping ∧ (s.fp .fp1).runOutTimer.isSome ∧
      (s.fp .fp1).auth = some (auth .control) ∧ (s.fp .fp1).stopCause = some .nozzleHung ∧
      s.sps.seq = .closing ∧ (s.fp .fp2).state ≠ .armed ∧ s.inSale .fp2 = false ∧ s.sps.domain ≠ .off ∧
      needsPump r.t .pumpL = true ∧ (s.pump .pumpL).state = .running ∧ (s.pump .pumpL).demand = 1 ∧
      0 < s.sus.image.runOn) ∧
    ∃ s r, s = stopping .nozzleHung sale ∧ (s.fp .fp1).sale = some r ∧ s.resetHeld = none ∧
      (s.fp .fp1).state = .stopping ∧ (s.fp .fp1).runOutTimer.isSome ∧
      (s.fp .fp1).auth = some (auth .control) ∧ (s.fp .fp1).stopCause = some .nozzleHung ∧
      StopCause.nozzleHung ≠ .preset ∧ s.sps.seq ≠ .closing ∧ s.sj.slot (auth .control).slot = some (entry .control .active) :=
  ⟨⟨_, _, rfl, rfl, by decide⟩, _, _, rfl, rfl, by decide⟩

/-- A PRESET stop 50 mL short of its target, or after its top-up. -/
def presetStop (topUpDone : Bool) : State :=
  stopping .preset { sale with
    volume := 13289, volumeCl := 1328, money := 1992, heldPhase := some .fast, heldL := 1000, topUpDone := topUpDone }

theorem witness_PresetRunOutTopsUpOrLearns :
    (∃ s r, s = presetStop false ∧ (s.fp .fp1).sale = some r ∧ s.resetHeld = none ∧ (s.fp .fp1).state = .stopping ∧
      (s.fp .fp1).runOutTimer.isSome ∧ (s.fp .fp1).stopCause = some .preset ∧ r.volume < r.target ∧
      r.target ≤ r.volume + 50 ∧ r.topUpDone = false ∧ r.heldPhase = some .fast ∧ (s.fp .fp1).saleNozzleUp = true ∧
      r.hung = false ∧ (s.fp .fp1).saleNozzle = some .n1 ∧ (s.fp .fp1).nozzleUp.get .n1 = true ∧
      (∀ p, (s.meter (Fp.fp1.meter p)).faulty = false) ∧ s.needed r.t .running = true ∧ s.sps.seq = .opened ∧
      (s.field Fp.fp1.main .f1).dirtySince = none ∧ (s.field Fp.fp1.main .f2).dirtySince = none) ∧
      ∀ s, s = presetStop true ∨ s = stopping .preset { sale with volume := 13339 } ∨
          s = stopping .preset { sale with volume := 13288 } ∨ s = stopping .preset { sale with hung := true } →
        ∃ r, (s.fp .fp1).sale = some r ∧ s.resetHeld = none ∧ (s.fp .fp1).state = .stopping ∧
          (s.fp .fp1).runOutTimer.isSome ∧ (s.fp .fp1).stopCause = some .preset ∧
          (s.fp .fp1).auth = some (auth .control) ∧ r.limit ≠ .none ∧ s.sps.seq ≠ .closing ∧
          (r.target ≤ r.volume ∨ r.volume + 50 < r.target ∨ r.topUpDone = true ∨ r.hung = true) := by
  refine ⟨⟨_, _, rfl, rfl, rfl, rfl, rfl, rfl, by decide, by decide, rfl, rfl, rfl, rfl, rfl, rfl,
    fun p => by cases p <;> rfl, by decide, rfl, rfl, rfl⟩, ?_⟩
  rintro s (rfl | rfl | rfl | rfl) <;> exact ⟨_, rfl, by decide⟩

theorem witness_LiftsInArmedAndInSales :
    (∃ s, s = armed .control ∧ s.resetHeld = none ∧ s.sps.seq = .opened ∧ (s.fp .fp1).state = .armed ∧
      (s.fp .fp1).auth = some (auth .control) ∧ (s.fp .fp1).nozzleUp = ⟨false, false, false⟩ ∧
      (s.sus.image.hose.get .fp1).get .n1 = some .g1 ∧ s.sus.image.defined .g1 = true ∧
      gradeIn (auth .control).grades .g1 = true ∧ s.pru.current.get .g1 = some ⟨1499, 1399⟩ ∧
      (s.fp .fp1).appliedGen = s.pru.generation ∧ s.pru.panelVerified.get .fp1 = some s.pru.generation ∧
      (∀ p, (s.meter (Fp.fp1.meter p)).faulty = false) ∧
      s.sj.slot (auth .control).slot = some (entry .control .reserved) ∧
      (∀ p, needsPump (s.sus.image.perMille .g1) p = true → (s.pump p).state = .off) ∧ s.psg.queue = [] ∧
      s.sus.image.inrushGap * 1000 ≤ s.psg.sinceStart ∧ 0 < s.sus.image.inrushGap) ∧
      (∃ s, s = (armed .control).withPsg { (armed .control).psg with sinceStart := 1999999 } ∧
        s.psg.sinceStart < s.sus.image.inrushGap * 1000 ∧
        (∀ p, needsPump (s.sus.image.perMille .g1) p = true → (s.pump p).state = .off)) ∧
      (∃ s, s = (armed .control).withPru { opened.pru with panelVerified := .both none } ∧
        s.pru.panelVerified.get .fp1 ≠ some s.pru.generation ∧ (s.fp .fp1).state = .armed ∧
        s.sj.slot (auth .control).slot = some (entry .control .reserved)) ∧
      (∃ s, s = (armed .control).setPump .pumpL ⟨.failed, 0, .stuck, none, none, none⟩ ∧
        (s.fp .fp1).appliedGen = s.pru.generation ∧ s.pru.panelVerified.get .fp1 = some s.pru.generation ∧
        needsPump (s.sus.image.perMille .g1) .pumpL = true ∧ (s.pump .pumpL).state = .failed ∧
        (s.fp .fp1).closedCauses.any = false ∧ (s.fp .fp1).noted.any = false ∧ (s.fp .fp1).lockAfterSale = false) ∧
      (∃ s a, s = (armed .control).setFp .fp1 { (armed .control).fp .fp1 with auth := some a } ∧
        a = { auth .control with grades := 2#6 } ∧ s.resetHeld = none ∧ (s.fp .fp1).state = .armed ∧
        (s.fp .fp1).auth = some a ∧ (s.fp .fp1).nozzleUp.get .n1 = false ∧ (s.fp .fp1).upList = [] ∧
        (∀ g, (s.sus.image.hose.get .fp1).get .n1 = some g → s.sus.image.defined g = true →
          gradeIn a.grades g = false)) ∧
      (∃ s, s = (armed .control).setFp .fp1 { (armed .control).fp .fp1 with nozzleUp := ⟨false, true, false⟩ } ∧
        (s.fp .fp1).state = .armed ∧ (s.fp .fp1).auth = some (auth .control) ∧
        (s.fp .fp1).nozzleUp.get .n1 = false ∧ (s.fp .fp1).upList ≠ []) ∧
      (∀ s, s = starting ∨ s = fueling ∨ s = stopping .noFlow sale →
        s.resetHeld = none ∧ s.inSale .fp1 = true ∧ (s.fp .fp1).sale.isSome ∧ (s.fp .fp1).saleNozzle ≠ some .n2 ∧
          (s.fp .fp1).nozzleUp.get .n2 = false ∧ (s.fp .fp1).auth = some (auth .control) ∧
          s.sj.slot (auth .control).slot = some (entry .control .active) ∧ (entry .control .active).sale.isSome) ∧
      ∃ s, s = fueling.setFp .fp1 { fueling.fp .fp1 with nozzleUp := ⟨true, true, false⟩ } ∧
        s.inSale .fp1 = true ∧ (s.fp .fp1).saleNozzle ≠ some .n2 ∧ (s.fp .fp1).nozzleUp.get .n2 = true :=
  ⟨⟨_, rfl, rfl, rfl, rfl, rfl, rfl, rfl, by decide, by decide, rfl, rfl, rfl, fun p => by cases p <;> rfl, by decide,
    fun p _ => by cases p <;> rfl, rfl, by decide, by decide⟩,
    ⟨_, rfl, by decide, fun p _ => by cases p <;> rfl⟩, ⟨_, rfl, by decide, rfl, rfl⟩, ⟨_, rfl, by decide⟩,
    ⟨_, _, rfl, rfl, rfl, rfl, rfl, rfl, rfl, fun g h _ => by cases h; rfl⟩, ⟨_, rfl, by decide⟩,
    by rintro s (rfl | rfl | rfl) <;> decide, _, rfl, by decide⟩

/-- PUMP-L in a state with a timer of each kind running. -/
def pumpIn (st : PumpState) : State := opened.setPump .pumpL ⟨st, 1, .none, some 0, some 0, some 0⟩

theorem witness_PumpsStartPrimeRunAndRunOn :
    (∃ s, s = (pumpIn .queued).withPsg { (pumpIn .queued).psg with queue := [.pumpL] } ∧ s.resetHeld = none ∧
      s.psg.queue = .pumpL :: [] ∧ s.sps.seq = .opened) ∧
      (∃ s, s = staged ((pumpIn .queued).withPsg { (pumpIn .queued).psg with queue := [.pumpL] }) .shutting .s1 ∧
        s.resetHeld = none ∧ s.psg.queue = .pumpL :: [] ∧ s.sps.seq ≠ .opened ∧ s.sps.seq ≠ .closing) ∧
      (((pumpIn .starting).pump .pumpL).state = .starting ∧ 0 < (pumpIn .starting).sus.image.prime) ∧
      (∃ s, s = (pumpIn .starting).withSus
          { opened.sus with image := { opened.sus.image with prime := 0, runOn := 0 } } ∧ s.resetHeld = none ∧
        (s.pump .pumpL).state = .starting ∧ s.sus.image.prime = 0 ∧ s.sus.image.runOn = 0) ∧
      ((pumpIn .off).pump .pumpL).state = .off ∧ ((pumpIn .queued).pump .pumpL).state = .queued ∧
      (((pumpIn .priming).pump .pumpL).state = .priming ∧ ((pumpIn .priming).pump .pumpL).primeTimer.isSome ∧
        0 < (pumpIn .priming).sus.image.runOn) ∧
      ((pumpIn .runOn).pump .pumpL).state = .runOn ∧ ((pumpIn .runOn).pump .pumpL).runOnTimer.isSome :=
  ⟨⟨_, rfl, by decide⟩, ⟨_, rfl, by decide⟩, by decide, ⟨_, rfl, by decide⟩, by decide⟩

theorem entriesHeld_of_fp1 {s : State} {a : Auth} {e : Entry} (ha : (s.fp .fp1).auth = some a)
    (h2 : (s.fp .fp2).auth = none) (he : s.sj.slot a.slot = some e)
    (h : e.seq = a.seq ∧ e.fp = .fp1 ∧ (e.state = .reserved ∨ e.state = .active)) : s.entriesHeld := by
  intro f b hb
  cases f with
  | fp1 =>
    rw [ha] at hb
    cases hb
    exact ⟨e, he, h⟩
  | fp2 => rw [h2] at hb; cases hb

theorem witness_PumpFailureStopsItsSales :
    (fueling.resetHeld = none ∧ (fueling.pump .pumpL).state = .running ∧ (fueling.fp .fp1).state = .fueling ∧
      (fueling.fp .fp1).sale = some sale ∧ needsPump sale.t .pumpL = true) ∧
      (((pumpIn .starting).pump .pumpL).feedbackTimer.isSome ∧ ((pumpIn .starting).pump .pumpL).state = .starting) ∧
      (((pumpIn .queued).pump .pumpL).feedbackTimer.isSome ∧ ((pumpIn .queued).pump .pumpL).state = .queued) ∧
      (starting.resetHeld = none ∧ (starting.pump .pumpL).state = .running ∧ (starting.fp .fp1).state = .starting ∧
        (∃ r, (starting.fp .fp1).sale = some r ∧ needsPump r.t .pumpL = true) ∧
        (starting.fp .fp1).auth = some (auth .control) ∧ starting.entriesHeld ∧
        (starting.fp .fp2).state ≠ .starting) :=
  ⟨by decide, by decide, by decide, rfl, rfl, rfl, ⟨_, rfl, by decide⟩, rfl,
    entriesHeld_of_fp1 rfl rfl rfl (by decide), by decide⟩

/-! #### The site -/

/-- In OPEN, AUTO and with the time valid at the last second of a day, a price set due at second 0. -/
def lastSecond : State :=
  (opened.withSps { opened.sps with
    time := ⟨65535, 86399, true⟩
    schedule := { Schedule.default with auto := true } }).withPru
    { opened.pru with pendingSet := some ⟨PriceSet.empty, 0⟩ }

theorem witness_CounterStepsAndDrives : lastSecond.resetHeld = none ∧ lastSecond.sps.time.valid = true ∧
    lastSecond.pru.pendingSet.isSome := by decide

theorem witness_CloseGraceStopsSales :
    (∃ s, s = fueling.withSps { fueling.sps with seq := .closing, closeGrace := some 0 } ∧ s.resetHeld = none ∧
      s.sps.closeGrace.isSome ∧ (s.fp .fp1).sale = some sale ∧ (s.fp .fp1).state = .fueling) ∧
      (∃ s, s = (presetStop false).withSps { opened.sps with seq := .closing, closeGrace := some 0 } ∧
        s.resetHeld = none ∧ s.sps.closeGrace.isSome ∧ (s.fp .fp1).sale.isSome ∧ (s.fp .fp1).state = .stopping ∧
        (s.fp .fp1).stopCause = some .preset) ∧
      ∃ s, s = starting.withSps { opened.sps with seq := .closing, closeGrace := some 0 } ∧ s.resetHeld = none ∧
        s.sps.closeGrace.isSome ∧ (s.fp .fp1).sale.isSome ∧ (s.fp .fp1).state = .starting ∧
        (s.fp .fp1).auth = some (auth .control) ∧ s.entriesHeld ∧ s.sps.seq = .closing ∧ s.sps.domain ≠ .off ∧
        (s.fp .fp2).state ≠ .armed ∧ s.inSale .fp2 = false :=
  ⟨⟨_, rfl, by decide⟩, ⟨_, rfl, by decide⟩, _, rfl, rfl, rfl, rfl, rfl, rfl,
    entriesHeld_of_fp1 rfl rfl rfl (by decide), by decide⟩

/-- A stage whose settle time runs. -/
def settling (q : SeqState) (g : Stage) : State :=
  (staged opened q g).withSps { (staged opened q g).sps with stageTimer := some 0, wantedOpen := decide (q = .waking) }

/-- SHUTTING in S3 with every field of OK modules blank but one, whose CHECK is awaited. -/
def blanking : State :=
  let blank (m : ModuleId) : Module := okModule m .blank .blank .blank
  (staged opened .shutting .s3).withDbc
    { opened.dbc with
      blanked := true
      bus := .busy ⟨.mod4, .f3, wantedCodes .mod4 .f3 .blank, true, .check⟩
      modules := ⟨blank .mod1, { blank .mod2 with state := .failed }, blank .mod3, blank .mod4⟩ }

theorem witness_SettleTimesMoveStages :
    ((settling .waking .w2).resetHeld = none ∧ (settling .waking .w2).sps.stageTimer.isSome ∧
      (settling .waking .w2).sps.stage = .w2 ∧ (settling .waking .w2).sps.cold = false ∧
      (settling .waking .w2).dbc.bus ≠ .stuck) ∧
      ((settling .waking .w5).sps.stageTimer.isSome ∧ (settling .waking .w5).sps.stage = .w5 ∧
        (settling .waking .w5).sps.wantedOpen = true) ∧
      ((settling .shutting .s1).sps.stageTimer.isSome ∧ (settling .shutting .s1).sps.stage = .s1 ∧
        (settling .shutting .s1).sps.seq = .shutting ∧ (settling .shutting .s1).sps.domain ≠ .off) ∧
      ((settling .shutting .s2).sps.stageTimer.isSome ∧ (settling .shutting .s2).sps.stage = .s2 ∧
        (settling .shutting .s2).sps.seq = .shutting ∧ (settling .shutting .s2).sps.displaySupply = true ∧
        ((settling .shutting .s2).module .mod1).state = .ok) ∧
      (∃ s, s = (settling .shutting .s1).withSps
          { (settling .shutting .s1).sps with domain := .off, displaySupply := false, heater := true } ∧
        s.sps.stageTimer.isSome ∧ s.sps.stage = .s1 ∧ s.sps.domain = .off ∧ s.sps.seq = .shutting ∧
        s.sps.displaySupply = false ∧ s.sps.heater = true) ∧
      (∃ s, s = (settling .shutting .s4).withSps { (settling .shutting .s4).sps with pulserSupply := false } ∧
        s.sps.stageTimer.isSome ∧ s.sps.stage = .s4 ∧ s.sps.seq = .shutting ∧
        s.sps.pulserSupply ≠ s.sus.image.nightWatch) ∧
      ((settling .shutting .s5).sps.stageTimer.isSome ∧ (settling .shutting .s5).sps.stage = .s5 ∧
        (settling .shutting .s5).sps.wantedOpen = false) ∧
      ∃ u, blanking.dbc.bus = .busy u ∧ u.doing = .check ∧ blanking.resetHeld = none ∧
        blanking.sps.seq = .shutting ∧ blanking.sps.stage = .s3 ∧ blanking.sps.displaySupply = true ∧
        blanking.dbc.blanked = true ∧ (∀ f, (blanking.fp f).state ≠ .armed) ∧
        (∀ m, (blanking.module m).stage = .none) ∧ u.written = wantedCodes u.module u.field .blank ∧
        (blanking.field u.module u.field).dirty = false ∧
        ∀ m p, (blanking.module m).state = .ok → m ≠ u.module ∨ p ≠ u.field →
          (blanking.field m p).dirty = false ∧ (blanking.field m p).verified = some (wantedCodes m p .blank) :=
  ⟨by decide, by decide, by decide, by decide, ⟨_, rfl, by decide⟩, ⟨_, rfl, by decide⟩, by decide, _, rfl, rfl, rfl, rfl, rfl, rfl,
    rfl, fun f => by cases f <;> decide, fun m => by cases m <;> rfl, rfl, rfl,
    fun m p _ _ => by cases m <;> cases p <;> exact ⟨rfl, rfl⟩⟩

/-- In W1 with the heater on. -/
def heating : State :=
  (staged night .waking .w1).withSps
    { (staged night .waking .w1).sps with heater := true, heatTimer := some 0, wantedOpen := true }

/-- In OPEN, opened cold, at a point of the warm-up; both fueling points CLOSED by COLD, the last module under test
settled but for one CHECK. -/
def warming (w : WarmUp) (left : Timer) : State :=
  (opened.withFpc (.both { idleFp with state := .closed, closedCauses := { noCause with cold := true } })).withSps
      { opened.sps with cold := true, heater := true, warmUp := w, warmTimer := left, awaiting := ⟨false, false, true, false⟩ }
    |>.withDbc
      { opened.dbc with
        bus := .busy ⟨.mod3, .f1, wantedCodes .mod3 .f1 (.number 1499), false, .check⟩
        modules := opened.dbc.modules.set .mod3 { opened.module .mod3 with stage := .values } }

theorem witness_HeatingEndsWarmOrCold :
    (heating.resetHeld = none ∧ heating.sps.seq = .waking ∧ heating.sps.stage = .w1 ∧ heating.sps.heater = true ∧
      heating.sps.heatTimer.isSome ∧ heating.sus.image.ht + 2 ≤ (-13 : Int) ∧ heating.sps.cold = false ∧
      heating.sps.displaySupply = false ∧ (-14 : Int) < heating.sus.image.ht + 2) ∧
      ((warming .none none).resetHeld = none ∧ (warming .none none).sps.seq = .opened ∧
        (warming .none none).sps.cold = true ∧ (warming .none none).sps.warmUp = .none ∧
        (warming .none none).sus.image.ht + 2 ≤ (-13 : Int) ∧ opened.sps.cold = false) ∧
      ((warming .powering (some 0)).sps.seq = .opened ∧ (warming .powering (some 0)).sps.stageTimer = none ∧
        (warming .powering (some 0)).sps.warmTimer.isSome ∧ (warming .powering (some 0)).sps.warmUp = .powering ∧
        (warming .powering (some 0)).dbc.bus ≠ .stuck) ∧
      ∃ s u, s = warming .testing none ∧ s.dbc.bus = .busy u ∧ s.resetHeld = none ∧ s.sps.seq = .opened ∧
        s.sps.warmUp = .testing ∧ s.sps.stage = .none ∧ u.doing = .check ∧ s.dbc.blanked = false ∧
        (s.module u.module).stage = .values ∧ (∀ m, s.sps.awaiting.get m = decide (m = u.module)) ∧
        (∀ f, (s.fp f).state = .closed ∨ (s.fp f).state = .locked) ∧
        u.written = wantedCodes u.module u.field (s.field u.module u.field).wanted ∧
        (∀ p, (s.field u.module p).dirty = false) ∧
        ∀ p, p ≠ u.field →
          (s.field u.module p).verified = some (wantedCodes u.module p (s.field u.module p).wanted) :=
  ⟨by decide, by decide, by decide, _, _, rfl, rfl, rfl, rfl, rfl, rfl, rfl, rfl, rfl, fun m => by cases m <;> rfl,
    fun f => .inl (by cases f <;> rfl), rfl, fun p => by cases p <;> rfl, fun p _ => by cases p <;> rfl⟩

theorem witness_CreepWatchCycleAndHoldEnd :
    (∃ s, s = (settling .waking .w4).withSps { (settling .waking .w4).sps with domain := .off } ∧ s.resetHeld = none ∧
      s.sps.stage = .w4 ∧ s.sps.stageTimer.isSome ∧ s.sps.domain = .off) ∧
      (settling .waking .w4).sps.domain ≠ .off ∧
      (∃ s, s = opened.withSps { opened.sps with domain := .cycling, cycleTimer := some 0 } ∧ s.resetHeld = none ∧
        s.sps.domain = .cycling ∧ s.sps.cycleTimer.isSome) ∧
      ∃ s, s = opened.withSps { opened.sps with holdTimers := .both (some 0) } ∧ s.resetHeld = none ∧
        (s.sps.holdTimers.get .fp1).isSome :=
  ⟨⟨_, rfl, by decide⟩, by decide, ⟨_, rfl, by decide⟩, _, rfl, by decide⟩

theorem witness_PowerWarningFreezes :
    (∀ s q, s = staged starting q .none ∨ s = staged fueling q .none ∨ s = staged (stopping .noFlow sale) q .none →
      s.resetHeld = none ∧ s.sps.seq = q ∧ s.inSale .fp1 = true ∧ (s.fp .fp1).sale.isSome ∧
        (s.fp .fp1).auth = some (auth .control) ∧ s.entriesHeld ∧ (s.fp .fp2).state ≠ .armed ∧ s.inSale .fp2 = false) ∧
      (∀ q, (staged (armed .reader) q .w1).resetHeld = none ∧ (staged (armed .reader) q .w1).sps.seq = q ∧
        ((staged (armed .reader) q .w1).fp .fp1).state = .armed ∧
        ((staged (armed .reader) q .w1).fp .fp1).auth = some (auth .reader) ∧ (armed .reader).entriesHeld ∧
        (auth .reader).owner = .reader ∧ (armed .reader).riu.link = .active ∧ (armed .reader).riu.queue.length < 7) ∧
      (night.resetHeld = none ∧ night.sps.seq = .night) ∧
      State.reset.resetHeld = none ∧ State.reset.sps.seq = .recovering := by
  refine ⟨?_, fun q => ⟨rfl, rfl, rfl, rfl, entriesHeld_of_fp1 rfl rfl rfl (by decide), by decide⟩, ⟨rfl, rfl⟩, rfl, rfl⟩
  rintro s q (rfl | rfl | rfl) <;>
    exact ⟨rfl, rfl, rfl, rfl, rfl, entriesHeld_of_fp1 rfl rfl rfl (by decide), nofun, rfl⟩

/-- FROZEN from OPEN. -/
def frozen : State := opened.withSps { opened.sps with seq := .frozen, frozenFrom := .opened, warning := true }

/-- FROZEN from another state, with nothing running and the site wanted or not. -/
def frozenFrom (x : FrozenFrom) (resume : ResumeStage) (wanted : Bool) : State :=
  frozen.withSps { frozen.sps with frozenFrom := x, resume := resume, wantedOpen := wanted }

theorem witness_DipReturnsTheSite :
    (∀ x r w, (frozenFrom x r w).resetHeld = none ∧ (frozenFrom x r w).sps.seq = .frozen ∧
      (frozenFrom x r w).sps.frozenFrom = x ∧ (frozenFrom x r w).sps.resume = r ∧
      (frozenFrom x r w).sps.wantedOpen = w ∧ (frozenFrom x r w).sps.domain ≠ .off ∧
      (frozenFrom x r w).sps.heater = false ∧ (frozenFrom x r w).sps.heatTimer = none ∧
      (frozenFrom x r w).sus.image.ht ≤ (frozenFrom x r w).sps.ambient ∧ (frozenFrom x r w).sps.cold = false ∧
      (frozenFrom x r w).sps.displaySupply = true ∧ (frozenFrom x r w).dbc.bus ≠ .stuck ∧
      ∀ f, ¬ (frozenFrom x r w).busyAt f) ∧
      (∃ s, s = (armed .control).withSps (frozenFrom .closing .none true).sps ∧ s.resetHeld = none ∧
        s.sps.seq = .frozen ∧ s.sps.frozenFrom = .closing ∧ s.busyAt .fp1) ∧
      (∃ s, s = (frozenFrom .waking .w1 true).withSps
          { (frozenFrom .waking .w1 true).sps with heater := true, ambient := -16, displaySupply := false } ∧
        s.sps.heater = true ∧ s.sps.ambient < s.sus.image.ht ∧ s.sps.displaySupply = false) ∧
      night.resetHeld = none ∧ night.sps.seq ≠ .frozen :=
  ⟨fun _ _ _ => ⟨rfl, rfl, rfl, rfl, rfl, nofun, rfl, rfl, by show (-15 : Int) ≤ 0; decide, rfl, rfl, nofun,
      fun f => by cases f <;> exact (fun h => h.elim nofun nofun)⟩,
    ⟨_, rfl, rfl, rfl, rfl, .inl rfl⟩, ⟨_, rfl, by decide⟩, rfl, by decide⟩

/-! #### The reader -/

/-- The link in a state, with a waiting timer. -/
def linked (l : LinkState) : State := opened.withRiu { opened.riu with link := l, waitingTimer := some 0 }

/-- The link with a queue. -/
def queued (q : List OutEntry) : State := opened.withRiu { opened.riu with queue := q }

theorem witness_ReaderTimersAndExchanges :
    ((linked .waiting).resetHeld = none ∧ (linked .waiting).riu.link = .waiting ∧
      (linked .waiting).riu.waitingTimer.isSome ∧ (linked .waiting).riu.exchangeTimer.isSome ∧
      (linked .waiting).riu.exchange = none ∧ (linked .waiting).riu.link ≠ .active ∧
      (linked .waiting).riu.link ≠ .warning) ∧
      ((awaited opened).riu.exchange = some ⟨.poll, true⟩ ∧ (awaited opened).riu.exchangeTimer.isSome) ∧
      ((queued [.frame (.hostText 1 [])]).riu.exchangeTimer.isSome ∧
        (queued [.frame (.hostText 1 [])]).riu.exchange = none ∧
        (queued [.frame (.hostText 1 [])]).riu.link = .active ∧
        (queued [.frame (.hostText 1 [])]).riu.queue = .frame (.hostText 1 []) :: []) := by
  decide

/-- The link awaiting an answer in a state, with its error counts. -/
def counting (s : State) (l : LinkState) (send recv good : Nat) : State :=
  s.withRiu { s.riu with
    link := l, sendErrors := send, recvErrors := recv, goodRun := good, exchange := some ⟨.poll, true⟩ }

theorem witness_BadExchangesWarnAndFence :
    ((counting opened .active 75 77 0).resetHeld = none ∧ (counting opened .active 75 77 0).riu.awaiting = true ∧
      (counting opened .active 75 77 0).riu.link = .active ∧ (counting opened .active 75 77 0).riu.textStage ≠ .sent ∧
      min 255 (75 + 4) < 80 ∧ min 255 (77 + 2) < 80) ∧
      (80 ≤ min 255 (76 + 4) ∧ (counting opened .active 76 0 0).riu.awaiting = true ∧ 80 ≤ min 255 (189 + 2) ∧
        min 255 (189 + 2) < 192 ∧ (counting opened .active 0 189 0).riu.awaiting = true ∧
        (counting opened .warning 187 0 0).riu.link = .warning ∧ 80 ≤ min 255 (187 + 4) ∧
        (counting opened .recovering 0 189 15).riu.link = .recovering ∧ (counting opened .absent 0 0 0).riu.link = .absent) ∧
      192 ≤ min 255 (188 + 4) ∧ 192 ≤ min 255 (190 + 2) ∧ (armed .reader).riu.policy.autoCycle = true ∧
      ∀ l, l = .active ∨ l = .warning ∨ l = .recovering → ∀ s, s = counting (armed .reader) l 188 190 15 →
        s.resetHeld = none ∧ s.riu.awaiting = true ∧ s.riu.textStage ≠ .sent ∧ s.riu.link = l ∧ s.sps.seq ≠ .closing ∧
          (s.fp .fp1).state = .armed ∧ (s.fp .fp1).auth = some (auth .reader) ∧ s.riu.holdoff = none := by
  refine ⟨by decide, by decide, by decide, by decide, rfl, ?_⟩
  rintro l (rfl | rfl | rfl) s rfl <;> decide

theorem hears_awaited : (awaited opened).hears := ⟨rfl, rfl, rfl, by decide, by decide, by decide⟩

theorem witness_GoodAnswersHealTheLink :
    (counting opened .active 80 80 0).hears ∧
      ((counting opened .warning 80 80 0).resetHeld = none ∧ (counting opened .warning 80 80 0).riu.awaiting = true ∧
        (counting opened .warning 80 80 0).riu.textStage ≠ .sent ∧ (counting opened .warning 80 80 0).riu.link = .warning) ∧
      ((counting opened .warning 81 192 0).riu.awaiting = true ∧ (counting opened .warning 81 192 0).riu.link = .warning) ∧
      (counting opened .absent 0 0 0).riu.link = .absent ∧
      (counting opened .recovering 192 192 14).riu.link = .recovering ∧
      (counting opened .recovering 80 80 15).riu.link = .recovering ∧
      (counting opened .recovering 80 80 15).riu.goodRun = 15 :=
  ⟨⟨rfl, rfl, rfl, by decide, by decide, by decide⟩, by decide⟩

theorem witness_ReaderAuthorizationArms :
    (∃ s, s = (awaited opened).withRiu { (awaited opened).riu with policy := { Policy.default with authReq := false } } ∧
      s.hears ∧ s.riu.policy.authReq = false) ∧
      (awaited opened).hears ∧ (awaited opened).riu.policy.authReq = true ∧
      (awaited opened).riu.policy.fps.get .fp1 = true ∧ (awaited opened).riu.queue.length < 8 ∧
      1 ≤ (15000 : BitVec 32).toNat ∧ (15000 : BitVec 32).toNat ≤ (awaited opened).riu.policy.ceiling ∧
      gradesOfByte 0xC1 ≠ 0 ∧ 10 ≤ (10 : BitVec 16).toNat ∧ (600 : BitVec 16).toNat ≤ 600 ∧
      ((awaited opened).fp .fp1).state = .idle ∧ ((awaited opened).fp .fp1).nozzleUp = ⟨false, false, false⟩ ∧
      (awaited opened).sps.seq = .opened ∧ (awaited opened).sj.nextSeq ≤ 4294967295 ∧
      (awaited opened).sj.chooseSlot = some 0 :=
  ⟨⟨_, rfl, ⟨rfl, rfl, rfl, by decide, by decide, by decide⟩, rfl⟩, hears_awaited, by decide⟩

/-- The journal with one entry below its next sequence number is numbered. -/
theorem holding_numbered {e : Entry} (h : e.seq < 2) : (holding e).numbered :=
  ⟨fun _ _ hi => (holding_slot hi).2 ▸ h, fun _ _ _ _ hi hk _ => (holding_slot hi).1.trans (holding_slot hk).1.symm⟩

theorem witness_ReaderCancelsAsksAndSettles :
    ((awaited (armed .reader)).hears ∧ (awaited (armed .reader)).riu.queue.length < 7 ∧
      (awaited (armed .reader)).riu.policy.authCancel = true ∧ ((awaited (armed .reader)).fp .fp1).state = .armed ∧
      ((awaited (armed .reader)).fp .fp1).auth = some (auth .reader) ∧ (auth .reader).owner = .reader ∧
      (awaited (armed .reader)).sps.seq ≠ .closing) ∧
      ((awaited opened).hears ∧ (awaited opened).riu.policy.saleQuery = true ∧
        ∀ i e, (awaited opened).sj.slot i = some e → e.fp = .fp1 → e.owner = .control) ∧
      ∃ s e, s = (awaited opened).withSj (holding e) ∧ e = entry .reader .unsettled ∧ s.hears ∧
        s.riu.policy.saleQuery = true ∧ s.riu.policy.settle = true ∧ s.sj.numbered ∧ s.sj.slot 0 = some e ∧
        e.seq = (1 : BitVec 32).toNat ∧ e.fp = .fp1 ∧ e.owner = .reader ∧ e.state = .unsettled ∧
        ∀ k d, s.sj.slot k = some d → d.fp = .fp1 → d.owner = .reader → k = 0 ∨ d.seq < e.seq := by
  have none : ∀ i, (awaited opened).sj.slot i = none := by decide
  refine ⟨⟨⟨rfl, rfl, rfl, by decide, by decide, by decide⟩, by decide⟩,
    ⟨hears_awaited, rfl, fun i e h => by rw [none] at h; cases h⟩,
    _, _, rfl, rfl, ⟨rfl, rfl, rfl, by decide, by decide, by decide⟩, rfl, rfl, holding_numbered (by decide), rfl, rfl, rfl,
    rfl, rfl, fun k d h _ _ => .inl (holding_slot h).1⟩

theorem witness_PromptsAndTextAcks :
    ((awaited opened).hears ∧ (awaited opened).riu.policy.prompt = true ∧ (2 : Byte).toNat ≤ 2 ∧
      (awaited opened).riu.passThrough.length < 8) ∧
      (∃ s, s = (awaited opened).withRiu
          { (awaited opened).riu with passThrough := List.replicate 8 ⟨0, [65]⟩, overrun := true } ∧
        s.hears ∧ s.riu.policy.prompt = true ∧ 8 ≤ s.riu.passThrough.length) ∧
      ∃ s, s = (counting opened .active 76 80 0).withRiu
          { (counting opened .active 76 80 0).riu with textStage := .sent, textNumber := 255, answersSeen := 2 } ∧
        s.resetHeld = none ∧ s.riu.awaiting = true ∧ s.riu.link = .active ∧ s.riu.sendErrors ≤ 76 ∧
        s.riu.recvErrors ≤ 80 ∧ s.riu.textStage = .sent ∧ s.riu.policy.textAck = true ∧
        s.riu.textNumber = (255 : Byte).toNat ∧ s.riu.textNumber ≠ (254 : Byte).toNat ∧ 2 ≤ s.riu.answersSeen :=
  ⟨⟨hears_awaited, by decide⟩, ⟨_, rfl, ⟨rfl, rfl, rfl, by decide, by decide, by decide⟩, by decide⟩, _, rfl, by decide⟩

/-! #### The display bus -/

/-- The bus in a state. -/
def bused (s : State) (b : Bus) : State := s.withDbc { s.dbc with bus := b }

/-- A field of a module dirty, on an IDLE bus. -/
def dirtied (s : State) (m : ModuleId) (p : FieldPos) : State :=
  s.withDbc { s.dbc with
    modules := s.dbc.modules.set m
      { s.module m with
        fields := (s.module m).fields.set p { s.field m p with dirty := true, verified := none, dirtySince := some 0 } } }

/-- The zero of MONEY being written to main display 1 in a try. -/
def writing (try2 : Bool) (doing : Transaction) : Update :=
  ⟨.mod1, .f1, wantedCodes .mod1 .f1 (.number 0), try2, doing⟩

/-- A module of a fueling point in a state, one field's CHECK awaited with the value it is to show. -/
def checking (s : State) (m : ModuleId) (p : FieldPos) (codes : List Byte) : State :=
  bused s (.busy ⟨m, p, codes, true, .check⟩)

/-- STARTING at a volume, the main display showing its values. -/
def startingAt (mL : Nat) : State :=
  let r := { sale with phase := none, dutyL := 0, volume := mL, volumeCl := mL / 10, money := moneyOf mL 1499 }
  let s := inSaleState .starting r none
  checking (s.withDbc { s.dbc with
    modules := s.dbc.modules.set .mod1 (okModule .mod1 (.number r.money) (.number r.volumeCl) (.number 1499)) })
    .mod1 .f3 (wantedCodes .mod1 .f3 (.number 1499))

/-- STARTING with VOLUME verified, marked again and waiting for 1,000,001 µs. -/
def waitedTooLong : State :=
  let s := startingAt 0
  s.setField .mod1 .f2 { s.field .mod1 .f2 with dirtySince := some (State.reset.miu.clock - 1000001) }

/-- ARMED in PRICE_WAIT with a nozzle up. -/
def priceWaiting : State :=
  checking ((armed .control).setFp .fp1
    { (armed .control).fp .fp1 with waiting := .priceWait, nozzleUp := ⟨true, false, false⟩ })
    .mod3 .f1 (wantedCodes .mod3 .f1 (.number 1499))

theorem witness_FieldUpdateWritesAndVerifies :
    (∃ s, s = dirtied opened .mod1 .f1 ∧ s.resetHeld = none ∧ s.sps.displaySupply = true ∧ s.dbc.bus = .idle none ∧
      (s.module s.dbc.rotation.succ).state = .ok ∧ (s.field s.dbc.rotation.succ .f1).dirty = true) ∧
      (night.resetHeld = none ∧ night.sps.displaySupply = false) ∧
      ((bused opened (.busy (writing false .write))).resetHeld = none ∧
        (bused opened (.busy (writing false .write))).sps.stage ≠ .s3) ∧
      (∀ mL, mL = 0 ∨ mL = 13038 ∨ mL = 13039 ∨ mL = 13318 ∨ mL = 13319 → ∀ s, s = startingAt mL →
        ∃ r, (s.fp .fp1).sale = some r ∧ r.volume = mL ∧ r.slowPoint = 13039 ∧ r.closePoint = 13319 ∧
          s.resetHeld = none ∧ s.sps.stage ≠ .s3 ∧ s.sps.seq = .opened ∧ (s.module .mod1).stage = .none ∧
          ModuleId.mod1 = ModuleId.mod1.fp.main ∧ (s.fp .fp1).state = .starting ∧ (s.fp .fp1).saleNozzleUp = true ∧
          s.needed r.t .running = true ∧ s.mainShows .fp1 r.money r.volumeCl r.price = true ∧
          (s.field .mod1 .f1).dirtySince = none ∧ (s.field .mod1 .f2).dirtySince = none ∧
          (s.fp .fp1).valveL = none ∧ (s.fp .fp1).valveH = none) ∧
      (∃ s c, s = waitedTooLong ∧ c = (State.reset.miu.clock - 1000001) ∧ (s.field .mod1 .f2).dirtySince = some c ∧
        (s.field .mod1 .f2).staleReported = false ∧ 1000000 < (s.miu.clock - c).toNat ∧
        (s.module .mod1).state ≠ .failed ∧ (s.fp .fp1).state = .starting ∧ s.sps.seq = .opened) ∧
      (∃ s, s = checking opened .mod3 .f1 (wantedCodes .mod3 .f1 (.number 1499)) ∧ ModuleId.mod3.isPanel = true ∧
        (s.module .mod3).stage = .none ∧ (s.fp ModuleId.mod3.fp).waiting ≠ .priceWait) ∧
      ∃ s, s = priceWaiting ∧ s.resetHeld = none ∧ s.sps.stage ≠ .s3 ∧ s.sps.seq ≠ .closing ∧
        (s.module .mod3).stage = .none ∧ (s.fp .fp1).state = .armed ∧ (s.fp .fp1).waiting = .priceWait ∧
        (s.fp .fp1).auth = some (auth .control) ∧ (s.fp .fp1).upList = [.n1] ∧
        (s.sus.image.hose.get .fp1).get .n1 = some .g1 ∧ s.sus.image.defined .g1 = true ∧
        gradeIn (auth .control).grades .g1 = true ∧ (s.fp .fp1).appliedGen = s.pru.generation ∧
        (∀ p, (s.meter (Fp.fp1.meter p)).faulty = false) ∧
        (∀ p, needsPump (s.sus.image.perMille .g1) p = true → (s.pump p).state = .off) ∧
        (go (.displayCheckEnd (some (checkByte .f1 (wantedCodes .mod3 .f1 (.number 1499)), 0))) s).panelSettled .mod3 =
          true := by
  refine ⟨⟨_, rfl, by decide⟩, by decide, by decide, ?_, ⟨_, _, rfl, rfl, by decide⟩, ⟨_, rfl, by decide⟩, _, rfl, rfl,
    by decide, by decide, rfl, rfl, rfl,
    rfl, rfl, rfl, by decide, by decide, rfl, fun p => by cases p <;> rfl, fun p _ => by cases p <;> rfl, by decide⟩
  rintro mL (rfl | rfl | rfl | rfl | rfl) s rfl <;> exact ⟨_, rfl, by decide⟩

theorem witness_SecondFailedTryFailsTheModule :
    (∃ s, s = bused opened (.busy (writing false .write)) ∧ s.resetHeld = none ∧
      s.dbc.bus = .busy (writing false .write) ∧ s.sps.stage ≠ .s3 ∧ (writing false .write).doing = .write) ∧
      ∃ s, s = bused fueling (.busy (writing true .check)) ∧ s.resetHeld = none ∧
        s.dbc.bus = .busy (writing true .check) ∧ s.sps.stage ≠ .s3 ∧ s.sps.seq ≠ .closing ∧
        (none : Option (Byte × Byte)) ≠ some (BitVec.ofNat 8 (FieldPos.f1.id +
          ((writing true .check).written.map BitVec.toNat).sum), 0) ∧
        (s.module .mod1).stage = .none ∧ (s.fp ModuleId.mod1.fp).state = .fueling ∧
        (s.fp ModuleId.mod1.fp).sale ≠ none :=
  ⟨⟨_, rfl, by decide⟩, _, rfl, by decide⟩

theorem witness_BusErrorsAndStaleFields :
    (∃ s, s = bused opened (.busy (writing false .write)) ∧ s.resetHeld = none ∧
      s.dbc.bus = .busy (writing false .write)) ∧
      (∃ s, s = bused opened (.recovering false (some (.mod1, .f1))) ∧ s.resetHeld = none ∧
        s.dbc.bus = .recovering false (some (.mod1, .f1)) ∧ s.sps.stage ≠ .s3 ∧ s.sps.seq ≠ .closing) ∧
      (∃ s, s = bused starting (.recovering false none) ∧ (s.fp .fp1).state = .starting ∧ (s.fp .fp1).sale.isSome ∧
        (s.fp .fp1).auth = some (auth .control) ∧ s.entriesHeld) ∧
      (∃ s, s = bused fueling (.recovering false none) ∧ (s.fp .fp1).state = .fueling ∧
        (s.fp .fp1).sale = some sale ∧ (s.fp .fp2).state = .idle) ∧
      (∃ s, s = bused night (.recovering false none) ∧ (s.fp .fp1).state = .closed) ∧
      ∃ s, s = dirtied fueling .mod1 .f2 ∧ s.resetHeld = none ∧ (s.fp .fp1).state = .fueling ∧
        (s.fp .fp1).sale = some sale ∧ (s.module Fp.fp1.main).state ≠ .failed ∧ s.dbc.bus ≠ .stuck ∧
        (s.field Fp.fp1.main WatchedField.volume.pos).dirtySince.isSome ∧
        (s.field Fp.fp1.main WatchedField.volume.pos).staleReported = false :=
  ⟨⟨_, rfl, by decide⟩, ⟨_, rfl, by decide⟩,
    ⟨_, rfl, rfl, rfl, rfl, entriesHeld_of_fp1 rfl rfl rfl (by decide)⟩, ⟨_, rfl, by decide⟩, ⟨_, rfl, rfl⟩, _, rfl,
    by decide⟩

/-! #### Messages -/

theorem takes_opened : opened.takesRequests := ⟨rfl, rfl, by decide⟩
theorem takes_armed (o : Side) : (armed o).takesRequests := ⟨rfl, rfl, by cases o <;> decide⟩
theorem takes_fueling : fueling.takesRequests := ⟨rfl, rfl, by decide⟩
theorem takes_staged (q : SeqState) (g : Stage) (h : q ≠ .recovering) : (staged opened q g).takesRequests := ⟨rfl, rfl, h⟩

theorem witness_NoticesAreReadClearedAndEnabled : opened.takesRequests := takes_opened

theorem witness_ReportsShowTheStateAsItStands :
    (opened.resetHeld = none ∧ opened.clp.outstanding = none ∧ opened.sps.seq ≠ .recovering ∧ 3 < (4 : Byte).toNat ∧
      fpOfByte 4 = none) ∧
      (fueling.resetHeld = none ∧ fueling.clp.outstanding = none ∧ (fueling.fp .fp1).sale = some sale ∧
        (fueling.fp .fp2).sale = none ∧ fueling.sps.seq ≠ .recovering) ∧
      (lastSecond.resetHeld = none ∧ lastSecond.clp.outstanding = none ∧ lastSecond.pru.pendingSet.isSome) ∧
      (settling .waking .w2).sps.stageTimer = some 0 ∧ (warming .powering (some 0)).sps.stageTimer = none := by
  decide

theorem witness_StoreIsReadWithoutChange :
    (opened.takesRequests ∧ (∀ i e, opened.sj.slot i = some e → e.seq ≠ (1 : BitVec 32).toNat) ∧
      2 < (3 : Byte).toNat ∧ 15 < (16 : Byte).toNat ∧ (15 : Byte).toNat ≤ 15) ∧
      (fueling.takesRequests ∧ fueling.sj.numbered ∧ fueling.sj.slot 0 = some (entry .control .active) ∧
        (entry .control .active).seq = (1 : BitVec 32).toNat) ∧
      ∃ s x, x = ({ meter := .m1, time := Stamp.lost, interval := 0, phase := 0, seq := none, cause := .first } : Sample) ∧
        s = opened.withMiu { opened.miu with ring := opened.miu.ring.set 15 (some x), count := 1 } ∧ s.takesRequests ∧
        ∀ k, k < s.miu.count → s.miu.ring.get (s.miu.newest - Fin.ofNat 16 k) = some x := by
  have none : ∀ i, opened.sj.slot i = none := by decide
  refine ⟨⟨takes_opened, fun i e h => (by rw [none] at h; cases h), by decide⟩,
    ⟨takes_fueling, holding_numbered (by decide), rfl, rfl⟩, _, _, rfl, rfl, ⟨rfl, rfl, by decide⟩, by decide⟩

theorem witness_SiteMessagesMoveTheSequencer :
    ((staged opened .shutting .s1).takesRequests ∧ (staged opened .shutting .s1).sps.seq = .shutting) ∧
      ((staged opened .frozen .none).takesRequests ∧ (staged opened .frozen .none).sps.seq = .frozen) ∧
      ((staged opened .closing .none).takesRequests ∧ (staged opened .closing .none).sps.seq = .closing) ∧
      ((staged opened .night .none).takesRequests ∧ (staged opened .night .none).sps.seq = .night) ∧
      ((staged opened .waking .w4).takesRequests ∧ (staged opened .waking .w4).sps.seq = .waking) ∧
      (fueling.takesRequests ∧ fueling.sps.seq = .opened ∧ (fueling.fp .fp1).state = .fueling ∧
        0 < fueling.sus.image.closeGrace ∧ 1 < (2 : Byte).toNat ∧ (0 : Byte).toNat = 0 ∧
        fueling.inSale .fp1 = true ∧ (1 : Byte).toNat = 1) ∧
      (opened.takesRequests ∧ ∀ f, opened.inSale f = false) ∧
      (opened.sps.seq = .opened ∧ opened.psg.queue = [] ∧ opened.sps.domain ≠ .off ∧
        (∀ p, (opened.pump p).state ≠ .starting ∧ (opened.pump p).state ≠ .priming ∧ (opened.pump p).state ≠ .runOn) ∧
        ∀ f, (opened.fp f).state ≠ .armed ∧ opened.inSale f = false) ∧
      ∃ s, s = pumpIn .priming ∧ s.takesRequests ∧ s.sps.seq = .opened ∧ s.psg.queue = [] ∧
        (s.pump .pumpL).state = .priming ∧ ∀ f, (s.fp f).state ≠ .armed ∧ s.inSale f = false :=
  ⟨⟨⟨rfl, rfl, by decide⟩, rfl⟩, ⟨⟨rfl, rfl, by decide⟩, rfl⟩, ⟨⟨rfl, rfl, by decide⟩, rfl⟩, ⟨⟨rfl, rfl, by decide⟩, rfl⟩,
    ⟨⟨rfl, rfl, by decide⟩, rfl⟩, ⟨takes_fueling, by decide⟩, ⟨takes_opened, fun f => by cases f <;> rfl⟩,
    ⟨rfl, rfl, nofun, fun p => by cases p <;> decide, fun f => by cases f <;> decide⟩,
    _, rfl, ⟨rfl, rfl, by decide⟩, rfl, rfl, rfl, fun f => by cases f <;> decide⟩

theorem witness_TimeAndScheduleAreSet :
    (opened.takesRequests ∧ 86400 ≤ (86400 : BitVec 24).toNat ∧ (86399 : BitVec 24).toNat < 86400 ∧
      1 < (2 : Byte).toNat ∧ opened.sps.schedule.auto = false ∧ opened.pru.pendingSet = none ∧
      opened.sus.settingsLost = false ∧ opened.sus.writing = none) ∧
      (lastSecond.takesRequests ∧ lastSecond.pru.pendingSet = some ⟨PriceSet.empty, 0⟩ ∧ 0 = (0 : BitVec 24).toNat) ∧
      ∃ (x : Schedule) (days : PerDay RawDay),
        x = ⟨true, ⟨.window 0 86399, .openAllDay, .closedAllDay, .openAllDay, .openAllDay, .openAllDay, .openAllDay⟩⟩ ∧
        days = ⟨⟨2, 0, 86399⟩, ⟨0, 0, 0⟩, ⟨1, 0, 0⟩, ⟨0, 0, 0⟩, ⟨0, 0, 0⟩, ⟨0, 0, 0⟩, ⟨0, 0, 0⟩⟩ ∧
        (0 : Byte).toNat ≤ 1 ∧ (x.auto = true ↔ (0 : Byte).toNat = 0) ∧
        ∀ n, n < 7 → match x.days.get n with
          | .openAllDay => (days.get n).kind.toNat = 0
          | .closedAllDay => (days.get n).kind.toNat = 1
          | .window o c => (days.get n).kind.toNat = 2 ∧ (days.get n).opens.toNat = o ∧
            (days.get n).closes.toNat = c ∧ o < c ∧ c < 86400 := by
  refine ⟨⟨takes_opened, by decide⟩, ⟨⟨rfl, rfl, by decide⟩, rfl, rfl⟩, _, _, rfl, rfl, by decide, by decide, ?_⟩
  intro n hn
  match n, hn with
  | 0, _ => exact ⟨rfl, rfl, rfl, by decide, by decide⟩
  | 1, _ => rfl
  | 2, _ => rfl
  | 3, _ => rfl
  | 4, _ => rfl
  | 5, _ => rfl
  | 6, _ => rfl

/-- The journal with every slot UNSETTLED but the first `free`, the low flag armed. -/
def nearlyFull (free : Nat) : State :=
  opened.withSj { opened.sj with
    slots := Vector.ofFn (fun i => if i.val < free then none else some { entry .control .unsettled with seq := i.val + 1 })
    nextSeq := 33 }

/-- FP1 CALLING in OPEN with nozzle 1 up. -/
def calling : State := opened.setFp .fp1 { idleFp with state := .calling, nozzleUp := ⟨true, false, false⟩ }

theorem witness_AuthorizeArmsTheFuelingPoint :
    (opened.takesRequests ∧ gradesOfByte 1 ≠ 0 ∧ (999899 : BitVec 32) ≠ 0 ∧
      Limit.money 999899 = .money (min 999899 (999899 : BitVec 32).toNat) ∧
      false = decide (999899 < (999899 : BitVec 32).toNat) ∧ true = decide (99999 < (100000 : BitVec 32).toNat) ∧
      (opened.fp .fp1).state = .idle ∧ (opened.fp .fp1).upList = [] ∧ opened.sps.seq = .opened ∧
      opened.sj.nextSeq ≤ 4294967295 ∧ opened.sj.chooseSlot = some 0) ∧
      (fueling.takesRequests ∧ (fueling.fp .fp1).state ≠ .idle ∧ (fueling.fp .fp1).state ≠ .calling) ∧
      (night.takesRequests ∧ night.sps.seq ≠ .opened) ∧
      (∃ s, s = opened.withSj { opened.sj with nextSeq := 4294967296 } ∧ s.takesRequests ∧ 4294967295 < s.sj.nextSeq ∧
        (s.fp .fp1).state = .idle ∧ (s.fp .fp1).upList = [] ∧ s.sps.seq = .opened) ∧
      ((nearlyFull 5).takesRequests ∧ (nearlyFull 5).sj.lowArmed = true ∧ (nearlyFull 5).sj.chooseSlot = some 0 ∧
        (nearlyFull 5).sus.image.lowThreshold = 4 ∧ (nearlyFull 0).takesRequests ∧
        (nearlyFull 0).sj.chooseSlot = none ∧ ((nearlyFull 0).fp .fp1).state = .idle) ∧
      (∃ s, s = opened.setFp .fp1 { idleFp with state := .calling, nozzleUp := ⟨true, true, false⟩ } ∧ s.takesRequests ∧
        (s.fp .fp1).state = .calling ∧ 2 ≤ (s.fp .fp1).upList.length ∧ s.sj.chooseSlot = some 0) ∧
      (calling.takesRequests ∧ (calling.fp .fp1).state = .calling ∧ (calling.fp .fp1).upList = [.n1] ∧
        calling.sps.seq = .opened ∧ (calling.sus.image.hose.get .fp1).get .n1 = some .g1 ∧
        calling.sus.image.defined .g1 = true ∧ gradeIn (gradesOfByte 1) .g1 = true ∧
        gradeIn (gradesOfByte 2) .g1 = false ∧ calling.sj.nextSeq ≤ 4294967295 ∧ calling.sj.chooseSlot = some 0 ∧
        (calling.fp .fp1).appliedGen = calling.pru.generation ∧
        calling.pru.panelVerified.get .fp1 = some calling.pru.generation ∧
        (calling.meter (Fp.fp1.meter .low)).faulty = false ∧ (calling.meter (Fp.fp1.meter .high)).faulty = false ∧
        calling.pru.current.get .g1 = some ⟨1499, 1399⟩ ∧ (calling.pump .pumpL).state = .off ∧
        (calling.pump .pumpH).state = .off) ∧
      (calling.withPru { calling.pru with panelVerified := .both none }).pru.panelVerified.get .fp1 ≠ some 1 ∧
      (∃ s, s = calling.setPump .pumpL ⟨.failed, 0, .stuck, none, none, none⟩ ∧ s.takesRequests ∧
        needsPump (s.sus.image.perMille .g1) .pumpL = true ∧ (s.pump .pumpL).state = .failed) ∧
      -- fields out of order
      ((0 : Byte) ≠ 1 ∧ (3 : Byte) ≠ 2 ∧ 2 < (3 : Byte).toNat ∧ (64 : Byte).toNat % 64 = 0) :=
  ⟨⟨takes_opened, by decide⟩, ⟨takes_fueling, by decide⟩, ⟨⟨rfl, rfl, by decide⟩, by decide⟩,
    ⟨_, rfl, ⟨rfl, rfl, by decide⟩, by decide⟩,
    ⟨⟨rfl, rfl, by decide⟩, rfl, by decide, rfl, ⟨rfl, rfl, by decide⟩, by decide, rfl⟩,
    ⟨_, rfl, ⟨rfl, rfl, by decide⟩, by decide⟩, ⟨⟨rfl, rfl, by decide⟩, by decide⟩, by decide,
    ⟨_, rfl, ⟨rfl, rfl, by decide⟩, by decide⟩, by decide⟩

theorem witness_CancelAndStopActByTheState :
    (∀ o, (armed o).takesRequests ∧ ((armed o).fp .fp1).state = .armed ∧ ((armed o).fp .fp1).auth = some (auth o) ∧
      (armed o).sps.seq ≠ .closing ∧ (armed o).riu.link = .active ∧ (armed o).riu.queue.length < 8) ∧
      (opened.takesRequests ∧ (opened.fp .fp1).state ≠ .armed ∧ (opened.fp .fp1).state.inSale = false) ∧
      (fueling.takesRequests ∧ (fueling.fp .fp1).state = .fueling ∧ (fueling.fp .fp1).sale = some sale) ∧
      ((presetStop false).takesRequests ∧ ((presetStop false).fp .fp1).state = .stopping ∧
        ((presetStop false).fp .fp1).stopCause = some .preset) ∧
      ((stopping .noFlow sale).takesRequests ∧ ((stopping .noFlow sale).fp .fp1).state = .stopping ∧
        ((stopping .noFlow sale).fp .fp1).stopCause ≠ some .preset) ∧
      ∃ r, starting.takesRequests ∧ (starting.fp .fp1).state = .starting ∧ (starting.fp .fp1).sale = some r ∧
        (starting.fp .fp1).auth = some (auth .control) ∧
        starting.sj.slot (auth .control).slot = some (entry .control .active) ∧ starting.sps.seq ≠ .closing :=
  ⟨fun o => ⟨takes_armed o, by cases o <;> decide⟩, ⟨takes_opened, by decide⟩, ⟨takes_fueling, by decide⟩,
    ⟨⟨rfl, rfl, by decide⟩, by decide⟩, ⟨⟨rfl, rfl, by decide⟩, by decide⟩, _, ⟨rfl, rfl, by decide⟩, rfl, rfl, by decide⟩

/-- FP1 LOCKED with TOTALS. -/
def locked : State := opened.setFp .fp1 { idleFp with state := .locked, lockCauses := ⟨false, false, false, true⟩ }

theorem witness_LocksAndFaultsAreCleared :
    (opened.takesRequests ∧ (opened.fp .fp1).state ≠ .locked ∧ (opened.meter .m1).faulty = false ∧
      (opened.pump .pumpL).state ≠ .failed) ∧
      (∃ s, s = locked.setMeter .m2 { opened.meter .m2 with faulty := true } ∧ s.takesRequests ∧
        (s.fp .fp1).state = .locked ∧ ¬ (∀ k, (s.meter (Fp.fp1.meter k)).faulty = false) ∧
        (s.meter .m2).faulty = true) ∧
      (locked.takesRequests ∧ (locked.fp .fp1).state = .locked ∧ (∀ k, (locked.meter (Fp.fp1.meter k)).faulty = false) ∧
        (locked.module Fp.fp1.main).state ≠ .failed ∧ (locked.module Fp.fp1.panel).state ≠ .failed ∧
        locked.sps.seq ≠ .closing ∧ (locked.fp .fp1).lockCauses.totals = true) ∧
      (∀ b, b = .idle none ∨ b = .stuck ∨ b = .recovering true none →
        ∃ s, s = (bused locked b).setModule .mod1 { locked.module .mod1 with state := .failed } ∧ s.takesRequests ∧
          (s.fp .fp1).state = .locked ∧ (∀ k, (s.meter (Fp.fp1.meter k)).faulty = false) ∧
          (s.module Fp.fp1.main).state = .failed ∧ (s.module Fp.fp1.main).stage = .none ∧ s.dbc.bus = b) ∧
      (∃ s, s = opened.setPump .pumpL ⟨.failed, 0, .stuck, none, none, none⟩ ∧ s.takesRequests ∧
        (s.pump .pumpL).state = .failed ∧ s.pins.feedback.get .pumpL = false ∧ (s.pump .pumpL).demand = 0) ∧
      (∃ s, s = opened.setPump .pumpL ⟨.failed, 1, .stuck, none, none, none⟩ ∧ s.takesRequests ∧
        (s.pump .pumpL).state = .failed ∧ s.pins.feedback.get .pumpL = false ∧ 0 < (s.pump .pumpL).demand) ∧
      ∃ s, s = (opened.setPump .pumpH ⟨.failed, 1, .stuck, none, none, none⟩).withPins
          { opened.pins with feedback := ⟨false, true⟩ } ∧ s.takesRequests ∧
        (s.pump .pumpH).state = .failed ∧ s.pins.feedback.get .pumpH = true := by
  refine ⟨⟨takes_opened, by decide⟩, ⟨_, rfl, ⟨rfl, rfl, by decide⟩, rfl, (fun h => nomatch h .high), rfl⟩,
    ⟨⟨rfl, rfl, by decide⟩, rfl, fun k => by cases k <;> rfl, by decide⟩,
    fun b _ => ⟨_, rfl, ⟨rfl, rfl, nofun⟩, rfl, fun k => by cases k <;> rfl, rfl, rfl, rfl⟩,
    ⟨_, rfl, ⟨rfl, rfl, by decide⟩, by decide⟩,
    ⟨_, rfl, ⟨rfl, rfl, by decide⟩, by decide⟩, _, rfl, ⟨rfl, rfl, by decide⟩, by decide⟩

/-- STAGE_PRICES entries for the default grades, all in range. -/
def prices : PerGrade RawPrice :=
  ⟨⟨1, 100, 9999⟩, ⟨1, 1699, 1599⟩, ⟨1, 1599, 1499⟩, ⟨0, 0, 0⟩, ⟨0, 0, 0⟩, ⟨0, 0, 0⟩⟩

/-- The set those entries make. -/
def priceSet : PriceSet := ⟨some ⟨100, 9999⟩, some ⟨1699, 1599⟩, some ⟨1599, 1499⟩, none, none, none⟩

theorem witness_PricesAreStagedAndCancelled :
    (opened.takesRequests ∧ opened.pru.pendingSet = none ∧ 86400 ≤ (86400 : BitVec 24).toNat ∧
      opened.sus.definedForPrices .g1 = true ∧ ((prices.set .g1 ⟨0, 0, 0⟩).get .g1).priced = 0) ∧
      (lastSecond.takesRequests ∧ lastSecond.pru.pendingSet.isSome) ∧
      (fueling.takesRequests ∧ fueling.inSale .fp1 = true ∧ fueling.inSale .fp2 = false ∧
        (86399 : BitVec 24).toNat < 86400 ∧
        ∀ g, match priceSet.get g with
          | none => fueling.sus.definedForPrices g = false ∧ (prices.get g).priced = 0
          | some q => fueling.sus.definedForPrices g = true ∧ (prices.get g).priced = 1 ∧
            (prices.get g).level1.toNat = q.level1 ∧ (prices.get g).level2.toNat = q.level2 ∧
            100 ≤ q.level1 ∧ q.level1 ≤ 9999 ∧ 100 ≤ q.level2 ∧ q.level2 ≤ 9999) := by
  refine ⟨⟨takes_opened, by decide⟩, ⟨⟨rfl, rfl, by decide⟩, rfl⟩, takes_fueling, rfl, rfl, by decide, fun g => ?_⟩
  cases g
  · exact ⟨rfl, rfl, rfl, rfl, by decide⟩
  · exact ⟨rfl, rfl, rfl, rfl, by decide⟩
  · exact ⟨rfl, rfl, rfl, rfl, by decide⟩
  · exact ⟨rfl, rfl⟩
  · exact ⟨rfl, rfl⟩
  · exact ⟨rfl, rfl⟩

/-- The journal with one entry and the link in a state. -/
def settling1 (e : Entry) (l : LinkState) : State := (opened.withSj (holding e)).withRiu { opened.riu with link := l }

theorem witness_SettlementFollowsOwnerAndState :
    (opened.takesRequests ∧ opened.sj.numbered ∧ ∀ i e, opened.sj.slot i = some e → e.seq ≠ (1 : BitVec 32).toNat) ∧
      ∀ o st l, (settling1 (entry o st) l).takesRequests ∧ (settling1 (entry o st) l).sj.numbered ∧
        (settling1 (entry o st) l).sj.slot 0 = some (entry o st) ∧ (entry o st).seq = (1 : BitVec 32).toNat ∧
        (entry o st).owner = o ∧ (entry o st).state = st ∧ (entry o st).token = (7 : Token) ∧
        (entry o st).token ≠ (8 : Token) ∧ (settling1 (entry o st) l).riu.link = l ∧
        (∃ left : Sj → Nat, ∀ j, left j = ((List.finRange 32).filter (fun k => match j.slot k with
          | none => true
          | some e => decide (e.state = .settled))).length) := by
  have none : ∀ i, opened.sj.slot i = none := by decide
  exact ⟨⟨takes_opened, ⟨fun i e h => (by rw [none] at h; cases h), fun i k e d h => (by rw [none] at h; cases h)⟩,
    fun i e h => (by rw [none] at h; cases h)⟩, fun o st l => ⟨⟨rfl, rfl, nofun⟩,
      holding_numbered (show 1 < 2 by decide), rfl, rfl, rfl, rfl, rfl, show (7 : Token) ≠ 8 by decide, rfl, _, fun _ => rfl⟩⟩

/-- A HOST_TEXT at a stage, queued behind a push. -/
def texting (g : TextStage) : State :=
  (queued [.frame (.saleDone .fp1 1), .frame (.hostText 255 [65])]).withRiu
    { opened.riu with
      queue := [.frame (.saleDone .fp1 1), .frame (.hostText 255 [65])], textStage := g, textNumber := 255, textCounter := 255 }

theorem witness_ReaderMessagesAct :
    ((linked .fenced).takesRequests ∧ (linked .fenced).riu.link = .fenced ∧ (linked .fenced).riu.link ≠ .active ∧
      (linked .fenced).riu.link ≠ .warning ∧ (List.replicate 32 (65 : Byte)).length ≤ 32) ∧
      ((armed .reader).takesRequests ∧ (armed .reader).riu.link ≠ .fenced ∧ (armed .reader).sps.domain = .on ∧
        (armed .reader).sps.seq ≠ .closing ∧ ((armed .reader).fp .fp1).state = .armed ∧
        ((armed .reader).fp .fp1).auth = some (auth .reader) ∧ 32 < (List.replicate 33 (65 : Byte)).length ∧
        (armed .reader).riu.link = .active ∧ (armed .reader).riu.textStage = .none ∧
        (armed .reader).riu.queue.length < 8 ∧ (armed .reader).riu.passThrough = []) ∧
      (night.takesRequests ∧ night.sps.domain = .off) ∧
      (∃ s, s = opened.withSps { opened.sps with domain := .cycling } ∧ s.takesRequests ∧ s.sps.domain = .cycling) ∧
      (∃ s, s = queued (List.replicate 8 (.frame (.saleDone .fp1 1))) ∧ s.takesRequests ∧ s.riu.link = .active ∧
        8 ≤ s.riu.queue.length) ∧
      ((texting .sent).takesRequests ∧ (texting .sent).riu.textStage = .sent) ∧
      ((texting .queued).takesRequests ∧ (texting .queued).riu.textStage = .queued ∧
        (texting .queued).riu.queue = [.frame (.saleDone .fp1 1)] ++ .frame (.hostText 255 [65]) :: [] ∧
        ∀ e, e ∈ [OutEntry.frame (.saleDone .fp1 1)] ++ [] → ∀ m y, e ≠ .frame (.hostText m y)) ∧
      (∃ s, s = opened.withRiu { opened.riu with passThrough := [⟨0, [65]⟩] } ∧ s.takesRequests ∧
        s.riu.passThrough = ⟨0, [65]⟩ :: []) ∧
      64 ≤ (64 : Byte).toNat ∧ (63 : Byte).toNat < 64 ∧ 4 ≤ (4 : Byte).toNat ∧ (3 : Byte).toNat < 4 ∧
      1 < (2 : Byte).toNat ∧ (1 : Byte).toNat ≤ 1 :=
  ⟨⟨⟨rfl, rfl, by decide⟩, by decide⟩, ⟨takes_armed _, by decide⟩, ⟨⟨rfl, rfl, by decide⟩, rfl⟩,
    ⟨_, rfl, ⟨rfl, rfl, by decide⟩, rfl⟩, ⟨_, rfl, ⟨rfl, rfl, by decide⟩, rfl, by decide⟩, ⟨⟨rfl, rfl, by decide⟩, rfl⟩,
    ⟨⟨rfl, rfl, by decide⟩, rfl, rfl, fun e h m y he => by simp [he] at h⟩, ⟨_, rfl, ⟨rfl, rfl, by decide⟩, rfl⟩, by decide⟩

/-- In SETUP with an edit image. -/
def editing (e : Image) : State := opened.withSus { opened.sus with edit := some e }

theorem witness_SetupIsEnteredAndLeft :
    (∃ (hose addresses : Image → Prop) (index : Fp → Nozzle → Nat),
      (∀ f n, index f n = 3 * (match f with
        | .fp1 => 0
        | .fp2 => 1) + (match n with
        | .n1 => 1
        | .n2 => 2
        | .n3 => 3)) ∧
      (∀ e, hose e ↔ ∀ f n g, (e.hose.get f).get n = some g → (e.share.get g).isSome) ∧
      (∀ e, addresses e ↔ ∀ a b : ModuleId, a ≠ b → e.address.get a ≠ e.address.get b)) ∧
    ((editing Image.defaults).takesRequests ∧ (editing Image.defaults).sus.edit = some Image.defaults ∧
      Image.defaults.fault (editing Image.defaults).pru.current = none ∧ (editing Image.defaults).sus.writing = none ∧
      (editing Image.defaults).sps.stage ≠ .s3 ∧ (editing Image.defaults).sps.seq ≠ .closing) ∧
      ((armed .control).takesRequests ∧ (armed .control).sus.edit = none ∧ ((armed .control).fp .fp1).state = .armed) ∧
      (opened.takesRequests ∧ opened.sus.edit = none ∧ opened.sps.seq ≠ .closing ∧ opened.sps.stage ≠ .s3 ∧
        ∀ f, (opened.fp f).state ≠ .armed ∧ opened.inSale f = false) ∧
      ∃ e item index, e = { Image.defaults with bt2 := 20 } ∧ (editing e).sus.edit = some e ∧
        e.fault (editing e).pru.current = some (item, index) ∧ (editing e).takesRequests ∧ (editing e).sps.stage ≠ .s3 :=
  ⟨⟨_, _, _, fun _ _ => rfl, fun _ => Iff.rfl, fun _ => Iff.rfl⟩, ⟨⟨rfl, rfl, by decide⟩, rfl, by decide⟩, ⟨takes_armed _, rfl, rfl⟩,
    ⟨takes_opened, rfl, by decide, by decide, fun f => by cases f <;> decide⟩,
    _, 14, 0, rfl, rfl, by decide, ⟨rfl, rfl, by decide⟩, by decide⟩

theorem witness_SettingsAreReadAndEdited :
    (opened.takesRequests ∧ opened.sus.edit = none) ∧
      ((editing Image.defaults).takesRequests ∧ (editing Image.defaults).sus.edit = some Image.defaults) ∧
      (1 ≤ (4 : Byte).toNat ∧ (4 : Byte).toNat ≤ 4 ∧ (2 : Byte).toNat = 2 ∧ (6 : Byte).toNat ≤ 6 ∧
        (31 : Byte).toNat ≤ 31 ∧ (0 : Byte).toNat = 0) ∧
      (itemRange (4 : Byte).toNat).isSome ∧ (itemRange (9 : Byte).toNat).isSome ∧
      250000 ≤ (250000 : BitVec 32).toNat ∧ (20000000 : BitVec 32).toNat ≤ 20000000 ∧
      (249999 : BitVec 32).toNat < 250000 ∧ 20000000 < (20000001 : BitVec 32).toNat ∧
      (1000000 : BitVec 32).toNat = Image.defaults.cf.get .m1 ∧ (250000 : BitVec 32).toNat ≠ Image.defaults.cf.get .m1 :=
  ⟨⟨takes_opened, rfl⟩, ⟨⟨rfl, rfl, by decide⟩, rfl⟩, by decide⟩

theorem witness_DisplayTestStartsTests :
    (opened.takesRequests ∧ 4 < (5 : Byte).toNat ∧ (4 : Byte).toNat = ModuleId.mod4.number ∧
      opened.sps.displaySupply = true ∧ (opened.module .mod4).stage = .none ∧ opened.dbc.bus = .idle none ∧
      (0 : Byte).toNat = 0) ∧ (∀ f, opened.inSale f = false) ∧
      (night.takesRequests ∧ night.sps.displaySupply = false) ∧
      (fueling.takesRequests ∧ fueling.sps.displaySupply = true ∧ ModuleId.mod1.isPanel = false ∧
        fueling.inSale ModuleId.mod1.fp = true) ∧
      ((bused opened .stuck).takesRequests ∧ (bused opened .stuck).sps.displaySupply = true ∧
        opened.inSale ModuleId.mod1.fp = false ∧ ((bused opened .stuck).module .mod1).stage = .none ∧
        (bused opened .stuck).dbc.bus = .stuck) ∧
      ∃ s, s = go (.displayTest 3) opened ∧ (s.module .mod3).stage ≠ .none ∧ s.sps.displaySupply = true ∧
        s.resetHeld = none :=
  ⟨⟨takes_opened, by decide⟩, fun f => by cases f <;> rfl, ⟨⟨rfl, rfl, by decide⟩, rfl⟩, ⟨takes_fueling, by decide⟩,
    ⟨⟨rfl, rfl, by decide⟩, by decide⟩, _, rfl, by decide⟩

/-! #### What every step keeps, and the link -/

theorem witness_EveryStepKeepsTheJournal :
    ∃ t, step (fueling.withPending [.noFlowExpiry .fp1]) = .next t ∧
      (fueling.withPending [.noFlowExpiry .fp1]).sj.numbered ∧
      (fueling.withPending [.noFlowExpiry .fp1]).entriesHeld ∧
      (fueling.withPending [.noFlowExpiry .fp1]).recoveringFresh :=
  ⟨_, rfl, holding_numbered (by decide), entriesHeld_of_fp1 rfl rfl rfl (by decide), nofun⟩

theorem witness_EveryStepKeepsTheTotals :
    ∃ t, step (opened.withPending [.siteOpen]) = .next t ∧ (opened.withPending [.siteOpen]).recoveringFresh ∧
      (opened.withPending [.siteOpen]).sj.totals.bounded ∧ (opened.withPending [.siteOpen]).checkWordKept :=
  ⟨_, rfl, nofun, ⟨fun m => by cases m <;> exact Nat.zero_le _, fun m => by cases m <;> exact Nat.zero_le _,
    fun g => by cases g <;> exact Nat.zero_le _, fun g => by cases g <;> exact Nat.zero_le _,
    fun f => by cases f <;> exact Nat.zero_le _, Nat.zero_le _⟩, .inr (.inr check_delivered)⟩

theorem witness_EveryStepKeepsValvesShutOutsideFueling :
    ∃ t, step (opened.withPending [.siteOpen]) = .next t ∧ (opened.withPending [.siteOpen]).recoveringFresh ∧
      (opened.withPending [.siteOpen]).valvesKept :=
  ⟨_, rfl, nofun, fun f _ => by cases f <;> exact ⟨rfl, rfl⟩⟩

/-- A request whose reply waits for store writes, with writes queued behind the one in progress. -/
def storing (waits queued : Nat) : State :=
  (opened.withSus { opened.sus with writing := some ⟨opened.sus.stored.items, queued⟩ }).withClp
    { opened.clp with outstanding := some ⟨none, ⟨0xC7, .ok, .none⟩, waits, false⟩ }

theorem witness_LinkGathersFramesAndSendsReplies :
    (opened.resetHeld = none ∧ opened.clp.receiver = .hunting ∧ opened.clp.buffer = [] ∧
      (0xC3 : Byte) ∉ [(0x01 : Byte), 0x05, 0x00, 0x00]) ∧
      (∃ s, s = go .controlSyncByte opened ∧ s.resetHeld = none ∧ s.clp.receiver = .receiving ∧
        s.clp.buffer = [0xC3] ∧ (0 : Byte).toNat = 0 ∧ 121 < (122 : Byte).toNat) ∧
      (∃ s o, s = go .siteOpen opened ∧ s.clp.outstanding = some o ∧ o.restarts = false ∧ s.clp.sending = .reply) ∧
      (∃ s, s = opened.withClp { opened.clp with sending := .held } ∧ s.resetHeld = none ∧ s.clp.sending = .held) ∧
      ((storing 1 0).resetHeld = none ∧ (storing 1 0).sus.writing = some ⟨opened.sus.stored.items, 0⟩ ∧
        (storing 1 0).clp.outstanding = some ⟨none, ⟨0xC7, .ok, .none⟩, 1, false⟩ ∧
        (storing 1 0).clp.sending = .nothing) ∧
      (storing 2 1).resetHeld = none ∧ (storing 2 1).sus.writing = some ⟨opened.sus.stored.items, 1⟩ ∧
      (storing 2 1).clp.outstanding = some ⟨none, ⟨0xC7, .ok, .none⟩, 2, false⟩ :=
  ⟨by decide, ⟨_, rfl, by decide⟩, ⟨_, _, rfl, rfl, by decide⟩, ⟨_, rfl, by decide⟩, by decide⟩

theorem witness_FramesSpellTheirRequests :
    ((go .controlSyncByte opened).clp.receiver = .receiving ∧ (go .controlSyncByte opened).clp.buffer = [0xC3]) ∧
      requestFits (.sendToReader (List.replicate 120 65)) ∧
      messageOf opened.pins.metsw (.sendToReader (List.replicate 120 65)) =
        some (.sendToReader (List.replicate 120 65)) :=
  ⟨⟨rfl, rfl⟩, show (List.replicate 120 (65 : Byte)).length ≤ 120 by simp, rfl⟩

theorem witness_OvertakenAndBadFramesAreTurnedAway :
    (∃ s, s = go .siteOpen opened ∧ s.resetHeld = none ∧ messageOf s.pins.metsw .siteClose = some .siteClose ∧
      s.clp.outstanding.isSome) ∧
      (State.reset.resetHeld = none ∧ State.reset.clp.outstanding = none ∧ State.reset.sps.seq = .recovering ∧
        (∀ part, Request.siteClose ≠ .getStatus part)) ∧
      Request.siteClose ≠ .leaveSetup ∧ (go .controlSyncByte opened).clp.outstanding = none ∧
      (go .controlSyncByte opened).clp.receiver = .receiving ∧ (go .controlSyncByte opened).clp.buffer = [0xC3] ∧
      frameComplete [0x01, 0x05, 0x00, 0x00] = true ∧ frameSound [0x01, 0x05, 0x00, 0x00] = false ∧
      -- kinds 0Ah and 80h, and SITE_OPEN of length 2
      (∀ bs : List Byte, bs = [0x01, 0x0A, 0x8F, 0x74] ∨ bs = [0x01, 0x80, 0xBF, 0xB6] ∨
          bs = [0x02, 0x05, 0x00, 0x5D, 0x09] → frameComplete bs = true ∧ frameSound bs = true) ∧
      (∀ x ∈ catalogue, x.1 ≠ 0x0A) ∧ (0x05, 1, 1) ∈ catalogue ∧
      ∃ s, s = go .siteOpen (go .controlSyncByte opened) ∧ s.clp.outstanding.isSome ∧
        (go .controlSyncByte s).clp.buffer = [0xC3] ∧ (go .controlSyncByte s).clp.outstanding.isSome := by
  refine ⟨⟨_, rfl, by decide⟩, ⟨rfl, rfl, rfl, nofun⟩, by decide, by decide, by decide, by decide, by decide +kernel,
    by decide +kernel, ?_, by decide, by decide, _, rfl, by decide⟩
  rintro bs (rfl | rfl | rfl) <;> decide +kernel

/-- R202: a kind of no table, one from 80h, a length that SITE_OPEN does not allow (CRC-16 by hand). -/
theorem test_refused_frames :
    let refusal (bs : List Byte) :=
      (go (.controlFrameComplete ⟨bs, false⟩) (go .controlSyncByte State.reset)).clp.outstanding.map
        (fun o => (o.reply.kind, o.reply.result))
    refusal [0x01, 0x0A, 0x8F, 0x74] = some (0x8A, .unknownKind) ∧
      refusal [0x01, 0x80, 0xBF, 0xB6] = some (0xFF, .unknownKind) ∧
      refusal [0x02, 0x05, 0x00, 0x5D, 0x09] = some (0x85, .badLength) := by decide +kernel

/-! ### The WellFormed checks refuse ill-formed commands -/

theorem test_wf_ambient : (Instr.ambientReading 85).wf = true ∧ (Instr.ambientReading 86).wf = false ∧
    (Instr.ambientReading (-41)).wf = false := by decide

theorem test_wf_prompt : (Instr.prompt 1 [65]).wf = true ∧ (Instr.prompt 1 []).wf = false ∧
    (Instr.prompt 1 (List.replicate 33 65)).wf = false := by decide

theorem test_wf_text : (Instr.sendToReader (List.replicate 120 65)).wf = true ∧
    (Instr.sendToReader (List.replicate 121 65)).wf = false := by decide

theorem test_wf_fault_target : (Instr.clearFaultMeter 1).wf = true ∧ (Instr.clearFaultMeter 0x81).wf = false ∧
    (Instr.clearFaultMeter 0x82).wf = false := by decide

theorem test_wf_length : (Instr.controlLengthReject 0).wf = true ∧ (Instr.controlLengthReject 121).wf = false := by decide

theorem test_wf_frame : (Instr.controlFrameComplete ⟨[1, 5, 0, 0], true⟩).wf = true ∧
    (Instr.controlFrameComplete ⟨[2, 5, 0, 0], true⟩).wf = false := by decide

/-- No row of the table gives bits: no word spells a command. -/
theorem test_no_word_spells_a_command : decodeTableWord 8 0x41 = none ∧ State.reset.withFetchWord 8 0x41 = State.reset :=
  ⟨rfl, rfl⟩

/-! ### Worked figures of the manual -/

/-- CRC-16 and CRC-8 of their check strings (10 R201, 06 R115 name the polynomials; the values are the CRCs' own). -/
theorem test_crc : crc16 [0x31, 0x32, 0x33, 0x34, 0x35, 0x36, 0x37, 0x38, 0x39] = 0x29B1 ∧
    crc8 [0x31, 0x32, 0x33, 0x34, 0x35, 0x36, 0x37, 0x38, 0x39] = 0xF4 := by decide +kernel

/-- 2.6: target, money at the target and one below, at the slow point, the close point and the end. -/
theorem test_money_preset : targetOf (.money 3000) 1859 = 16136 ∧ moneyOf 16136 1859 = 3000 ∧ moneyOf 16135 1859 = 2999 ∧
    moneyOf 500 1859 = 93 ∧ moneyOf 15836 1859 = 2944 ∧ moneyOf 16116 1859 = 2996 ∧ moneyOf 16147 1859 = 3002 := by decide

/-- Table 2-3: starting duties and slow duties. -/
theorem test_duties : startDuties 1000 400 = (600, 400) ∧ scaleDuty true 1000 250 405 = 101 ∧
    scaleDuty true 1000 250 595 = 148 := by decide

/-- 2.6 and Table 2-4: learning from a final overrun of 11 mL, a shortfall of 60 mL and an overrun of 3 mL. -/
theorem test_learning : learned { sale with an := 20, target := 16136, volume := 16147 } = 25 ∧
    learned { sale with an := 80, target := 20000, volume := 19940 } = 50 ∧
    learned { sale with an := 80, target := 20000, volume := 20003 } = 81 := by decide

/-- Table 2-4: money of both outcomes, and the target of a volume preset. -/
theorem test_volume_preset : targetOf (.volume 2000) 1659 = 20000 ∧ moneyOf 19940 1659 = 3308 ∧ moneyOf 20003 1659 = 3318 := by
  decide

/-- Table 2-5: the step of the first window close. -/
theorem test_window_step : windowStep 400 379 4 = 5 ∧ windowStep 400 380 4 = 5 ∧
    189696000 * 1000 / (189696000 + 310502400) = 379 := by decide

/-- 2.9: the intervals at duty 405 and 101 with Pv of 20 ms. -/
theorem test_valve_intervals : highTime 405 20 = 8100 ∧ lowTime 405 20 = 11900 ∧ highTime 101 20 = 2020 ∧
    lowTime 101 20 = 17980 := by decide

/-- Table 5-3: check bytes. -/
theorem test_check_bytes :
    checkByte .f1 (wantedCodes .mod1 .f1 (.number 3002)) = 0x06 ∧ checkByte .f2 (wantedCodes .mod1 .f2 (.number 1614)) = 0xEE ∧
      checkByte .f3 (wantedCodes .mod1 .f3 (.number 1859)) = 0xDA ∧ checkByte .f1 (wantedCodes .mod1 .f1 (.number 0)) = 0xF1 ∧
      checkByte .f1 (patternCodes .mod1 .f1) = 0x51 ∧ checkByte .f2 (patternCodes .mod1 .f2) = 0x1A ∧
      checkByte .f3 (patternCodes .mod3 .f3) = 0xE3 ∧ checkByte .f1 (wantedCodes .mod1 .f1 .blank) = 0xC1 := by decide

/-- Table 1-3 with CF 1,000,000: in FUELING a forward pulse repays backlash, and with none it is credited. -/
theorem test_backlash_table :
    ((go (.meterInputEdge .m1 .a true 50) (backlashed 1 false fueling)).meter .m1).backlash = 0 ∧
      (((go (.meterInputEdge .m1 .a true 50) (backlashed 0 false fueling)).fp .fp1).sale.map Sale.accL) = some 1000000 := by
  decide

/-- 1.8, Table 1-4: the shift register from seed 1 through its fourth and eighth steps. -/
theorem test_shift_register : lfsrStep 8 = 17 ∧ lfsrStep 17 = 34 ∧ lfsrStep 136 = 273 := by decide

/-! ### One command at a time -/

/-- R180: the time of day survives a pin reset and is lost with both supplies. -/
theorem test_reset_time : (go .resetPin lastSecond).sps.time = ⟨65535, 86399, true⟩ ∧
    (go (.powerOnReset true) lastSecond).sps.time = Stamp.lost := by decide

/-- R199: straps 10 select 115,200 and straps 11 the lowest rate. -/
theorem test_straps : (go (.resetEnd 2) (go .resetPin opened)).clp.rate = 115200 ∧
    (go (.resetEnd 3) (go .resetPin opened)).clp.rate = 19200 := by decide

/-- R160: day 65535 is followed by day 0. -/
theorem test_day_wraps : (go .timeOfDayStep lastSecond).sps.time = ⟨0, 0, true⟩ := by decide

/-- R28, R30: a pulse that reaches the slow point of 13,039 mL goes to SLOW with its duty scaled; one that reaches the
close point of 13,319 mL, and in TOPUP the target of 13,339 mL, stops the sale. -/
def pulsed (r : Sale) : Fpc := (go (.meterInputEdge .m1 .a true 20) (inSaleState .fueling r none)).fp .fp1
theorem test_approach :
    (pulsed { sale with accL := 13038000000 }).sale.map (fun r => (r.phase, r.dutyL)) = some (some .slow, 250) ∧
      (pulsed { sale with accL := 13318000000, phase := some .slow, dutyL := 250 }).stopCause = some .preset ∧
      (pulsed { sale with accL := 13337000000, phase := some .topUp, dutyL := 250 }).state = .fueling ∧
      (pulsed { sale with accL := 13338000000, phase := some .topUp, dutyL := 250 }).state = .stopping := by decide

/-- R36, R37: a window of 500 mL closes and steps the duties of a blend; a blend off by more than bt2 after 2 L stops. -/
theorem test_blend_window :
    (pulsed { sale with
        t := 400, dutyL := 600, dutyH := 400, deltaL := 310502400, deltaH := 189696000
        accL := 310502400, accH := 189696000 }).sale.map (fun r => (r.dutyL, r.dutyH, r.deltaL)) = some (595, 405, 0) ∧
      (pulsed { sale with t := 400, dutyL := 600, dutyH := 400, deltaL := 499000000, accL := 1999000000 }).stopCause =
        some .blendFault := by decide

/-- R60: a hang of the sale nozzle in the run-out prevents the top-up, lifted again or not. -/
theorem test_hang_prevents_topup :
    ((go (.runOutExpiry .fp1) (presetStop false)).fp .fp1).state = .fueling ∧
      ((go (.runOutExpiry .fp1) (go (.nozzleLift .fp1 .n1) (go (.nozzleHang .fp1 .n1) (presetStop false)))).fp .fp1).state =
        .ended := by decide

/-- R70: the gate tests as CLOSING is entered: a queued head whose gap has passed is granted. -/
theorem test_gate_at_closing :
    ((go .siteClose (((fueling.setFp .fp2 { starting.fp .fp1 with auth := none }).setPump .pumpH
        ⟨.queued, 1, .none, none, none, none⟩).withPsg
        { fueling.psg with
          pumps := ⟨fueling.pump .pumpL, ⟨.queued, 1, .none, none, none, none⟩⟩
          queue := [.pumpH], sinceStart := 5000000 })).pump .pumpH).state = .starting := by decide

/-- R186: the record a completed write leaves carries the CRC-16 over its items; one whose write a reset cut short has
no check word that could pass. -/
theorem test_stored_record :
    (go .storeWriteComplete (storing 1 0)).sus.stored.check =
        some (crc16 (go .storeWriteComplete (storing 1 0)).sus.stored.items.bytes) ∧
      (go .resetPin (storing 1 0)).sus.stored.check = none :=
  ⟨rfl, rfl⟩

/-- R44: a lift in ARMED of a nozzle whose grade is permitted starts the sale; of two nozzles, it conflicts. -/
theorem test_lift : ((go (.nozzleLift .fp1 .n1) (armed .control)).fp .fp1).state = .starting ∧
    ((go (.nozzleLift .fp1 .n2) ((armed .control).setFp .fp1
      { (armed .control).fp .fp1 with nozzleUp := ⟨true, false, false⟩ })).fp .fp1).waiting = .nozzleConflict := by decide

/-- R57: hanging the sale's nozzle stops the sale; R49: the expiry drops the authorization. -/
theorem test_hang_and_expiry : ((go (.nozzleHang .fp1 .n1) fueling).fp .fp1).stopCause = some .nozzleHung ∧
    (go (.authExpiry .fp1) (armed .control)).sj.slot 0 = none := by decide

/-- R60: a run-out that ends leaves the entry UNSETTLED and the fueling point ENDED with its nozzle up. -/
theorem test_run_out : ((go (.runOutExpiry .fp1) (stopping .noFlow sale)).fp .fp1).state = .ended ∧
    ((go (.runOutExpiry .fp1) (stopping .noFlow sale)).sj.slot 0).map Entry.state = some .unsettled := by decide

/-- R70, R71: grant, feedback, prime. -/
theorem test_pump_start : ((go .inrushGapExpiry ((pumpIn .queued).withPsg
      { (pumpIn .queued).psg with queue := [.pumpL] })).pump .pumpL).state = .starting ∧
    ((go (.pumpFeedbackAsserted .pumpL) (pumpIn .starting)).pump .pumpL).state = .priming ∧
    ((go (.pumpPrimeExpiry .pumpL) (pumpIn .priming)).pump .pumpL).state = .running := by decide

/-- R72: lost feedback fails the pump. -/
theorem test_pump_fails : ((go (.pumpFeedbackReleased .pumpL) fueling).pump .pumpL).cause = .feedbackLost ∧
    ((go (.pumpFeedbackReleased .pumpL) fueling).fp .fp1).stopCause = some .pumpFail := by decide

/-- R176: a freeze ends a running sale POWER_LOSS and opens the contactors. -/
theorem test_freeze : ((go .powerWarning fueling).fp .fp1).lastEnd = some .powerLoss ∧
    ((go .powerWarning fueling).pump .pumpL).state = .off ∧ (go .powerWarning fueling).sps.frozenFrom = .opened := by
  decide

/-- Table 6-5: the twentieth unanswered exchange warns, and the answer that brings SEC to 192 fences and cycles. -/
theorem test_silent_reader : (go .readerAnswerWindowClose (counting opened .active 76 0 0)).riu.link = .warning ∧
    (go .readerAnswerWindowClose (counting (armed .reader) .warning 188 2 0)).riu.link = .off ∧
    (go .readerAnswerWindowClose (counting (armed .reader) .warning 188 2 0)).riu.lostPushes = 1 ∧
    ((go .readerAnswerWindowClose (counting (armed .reader) .warning 188 2 0)).fp .fp1).state = .idle := by decide

/-- R56: a STARTING sale ends at once with its pump, and with the hang of its nozzle. -/
theorem test_ends_from_starting :
    ((go (.pumpFeedbackReleased .pumpL) starting).fp .fp1).lastEnd = some .pumpFail ∧
      ((go (.nozzleHang .fp1 .n1) starting).fp .fp1).lastEnd = some .nozzleHung := by decide

/-- R69, R70: a lift 1,999,999 µs after the last contactor start leaves the pump QUEUED. -/
theorem test_lift_queues :
    ((go (.nozzleLift .fp1 .n1) ((armed .control).withPsg { opened.psg with sinceStart := 1999999 })).pump .pumpL).state =
        .queued ∧
      ((go (.nozzleLift .fp1 .n1) (armed .control)).pump .pumpL).state = .starting := by decide

/-- R177: PWARN asserted and released within RECOVERING raises POWER_FREEZE at the end of W0. -/
theorem test_warned_in_recovery :
    ((go .powerWarningRelease (go .powerWarning State.reset)).recoveryNotices.nu.get .powerFreeze).count = 1 ∧
      (State.reset.recoveryNotices.nu.get .powerFreeze).count = 0 := by decide

/-- R61, R101, R174: a bus that sticks while the last test of a warm-up runs leaves CLOSED fueling points CLOSED with
DISPLAY; in OPEN it locks them. -/
def lastTest : State :=
  let c := { idleFp with state := .closed, closedCauses := { noCause with cold := true } }
  let s := (opened.setFp .fp1 c).setFp .fp2 c
  let s1 := s.setModule .mod1 { s.module .mod1 with state := .unknown, stage := .values }
  (s1.withSps { s1.sps with warmUp := .testing, cold := true, awaiting := ⟨true, false, false, false⟩ }).withDbc
    { s1.dbc with bus := .recovering false none }
theorem test_bus_sticks :
    ((go (.busRecoveryEnd false) lastTest).fp .fp2).state = .closed ∧
      ((go (.busRecoveryEnd false) lastTest).fp .fp2).closedCauses = { noCause with display := true } ∧
      (go (.busRecoveryEnd false) lastTest).sps.warmUp = .none ∧
      ((go (.busRecoveryEnd false) (opened.withDbc { opened.dbc with bus := .recovering false none })).fp .fp2).state =
        .locked := by decide

/-- R78, R89, R155, R200: the codes of replies: a pending set is AT (1), the totals corrupt flag clear is 0; the start
queue PUMP-H, PUMP-L is 1, 0 behind the two pumps; SATURATED and TOPPED_UP are 0 and 5 in the order of Table 3-7. -/
theorem test_codes :
    (bodyOf (go .priceStatus lastSecond)).map Body.codes = some [1, 1, 1, 0, 0, 0, 1, 0, 0, 0, 0, 0, 0, 1, 0, 0] ∧
      (bodyOf (go (.readTotals 2) opened)).map Body.codes = some [0] ∧
      (bodyOf (go (.getStatus ⟨2, false⟩) (opened.withPsg { opened.psg with queue := [.pumpH, .pumpL] }))).map Body.codes =
        some [0, 0, 0, 0, 1, 0] ∧
      ({ RecordFlags.empty with saturated := true, toppedUp := true } : RecordFlags).codes = [0, 5] := by decide

/-- R119, R123: sixteen good exchanges recover the link. -/
theorem test_recovered : (go (.readerIdle 0) (counting opened .recovering 0 0 15)).riu.link = .active ∧
    (go (.readerIdle 0) (counting opened .recovering 0 0 14)).riu.goodRun = 15 := by decide

/-- R127: an AUTH_REQ above the ceiling is granted at the ceiling. -/
theorem test_auth_req : ((go (.authReq 1 7 2 20000 1 1 60) (awaited opened)).fp .fp1).auth.map Auth.limit =
    some (.money 15000) := by decide

/-- R136: a prompt joins the pass-through queue, and READ_PASSTHROUGH takes it out. -/
theorem test_prompt : (go (.prompt 2 [65]) (awaited opened)).riu.passThrough = [⟨2, [65]⟩] ∧
    (go .readPassthrough (go (.prompt 2 [65]) (awaited opened))).riu.passThrough = [] := by decide

/-- Table 5-6: a mismatch on the first try is followed by the second; the right answer verifies. -/
theorem test_display_update :
    (go (.displayCheckEnd (some (0, 0))) (bused opened (.busy (writing false .check)))).dbc.bus =
        .busy (writing true .write) ∧
      (go (.displayCheckEnd (some (0xF1, 0))) (bused opened (.busy (writing true .check)))).dbc.bus = .idle none ∧
      ((go (.displayCheckEnd (some (0xF1, 1))) (bused opened (.busy (writing true .check)))).module .mod1).state = .failed := by
  decide

/-- Table 9-3: SET_METER with the switch open and closed; SET_ITEM 10 clamped; LEAVE_SETUP with BT1 above BT2. -/
theorem test_calibration_session :
    (go (.setMeter 2 998400 false) (editing Image.defaults)).sj.totals.calibrations = 0 ∧
      (go (.setMeter 2 998400 true) (editing Image.defaults)).sus.edit.map (fun e => e.cf.m2) = some 998400 ∧
      (go (.setMeter 2 998400 true) (editing Image.defaults)).sj.totals.calibrations = 1 ∧
      bodyOf (go (.setItem 10 0 150) (editing Image.defaults)) = some (.stored 120) ∧
      bodyOf (go .leaveSetup (editing { Image.defaults with bt1 := 60 })) = some (.itemIndex 14 0) := by decide

/-- Table 10-11: a second request is held BUSY, a third is discarded and counted; the held answer follows the reply. -/
theorem test_overtaken :
    ((go (.fpStatus 1) (storing 1 0)).clp.held = some ⟨0x93, .busy, .none⟩ ∧
      (go .getNotices (go (.fpStatus 1) (storing 1 0))).clp.linkErrors = 1) ∧
      (go .storeWriteComplete (go (.fpStatus 1) (storing 1 0))).clp.sending = .reply ∧
      (go .replySent (go .storeWriteComplete (go (.fpStatus 1) (storing 1 0)))).clp.sending = .held := by decide

/-- R206, R207, R209: a raise asserts ATTN, a clear of the kind releases it. -/
theorem test_notices : (night.raise .powerUp).nu.attn = true ∧
    (go (.clearNotices 2) (night.raise .powerUp)).nu.attn = false := by decide

/-- R164: Table 8-3. -/
theorem test_site_messages : (go .siteOpen night).sps.seq = .waking ∧ (go .siteClose opened).sps.seq ≠ .opened ∧
    resultOf (go .siteOpen (staged opened .shutting .s1)) = some .busy := by decide

/-- R46: a CALLING fueling point whose nozzle is up starts at once; R78: prices staged NOW are current at once. -/
theorem test_authorize_and_prices :
    ((go (.authorize 1 2 2000 1 63 120 7) calling).fp .fp1).state = .starting ∧
      (go (.stagePricesNow 0 prices) opened).pru.current.get .g1 = some ⟨100, 9999⟩ := by decide

end Sys2Proof.Tests
end

section
/-! PROOFS. The price unit: which entries make a price set, what an activation and an adoption leave, the messages
STAGE_PRICES and CANCEL_PRICES. -/

namespace Sys2Proof

@[simp] theorem PerGrade.get_of {α : Type} (f : Grade → α) (g : Grade) : (PerGrade.of f).get g = f g := by
  cases g <;> rfl

theorem PerGrade.ext_get {α : Type} {p q : PerGrade α} (h : ∀ g, p.get g = q.get g) : p = q := by
  obtain ⟨p1, p2, p3, p4, p5, p6⟩ := p
  obtain ⟨q1, q2, q3, q4, q5, q6⟩ := q
  simp only [PerGrade.mk.injEq]
  exact ⟨h .g1, h .g2, h .g3, h .g4, h .g5, h .g6⟩

@[simp] theorem Fp.panel_isPanel (f : Fp) : f.panel.isPanel = true := by cases f <;> rfl

@[simp] theorem Fp.panel_fp (f : Fp) : f.panel.fp = f := by cases f <;> rfl

theorem Fp.panel_ne {f g : Fp} (h : g ≠ f) : g.panel ≠ f.panel :=
  fun e => h (by rw [← Fp.panel_fp g, e, Fp.panel_fp])

end Sys2Proof

namespace Sys2Proof.Machine

/-! ### Entries and the sets they make (R77, R78) -/

theorem checkPrice_defined_unpriced {e : RawPrice} (h : e.priced = 0) : checkPrice true e = none := by
  simp [checkPrice, h]

theorem checkPrice_undefined_unpriced {e : RawPrice} (h : e.priced = 0) : checkPrice false e = some none := by
  simp [checkPrice, h]

theorem checkPrice_defined_priced {e : RawPrice} {q : GradePrice} (hp : e.priced = 1)
    (h1 : e.level1.toNat = q.level1) (h2 : e.level2.toNat = q.level2) (hq1 : 100 ≤ q.level1 ∧ q.level1 ≤ 9999)
    (hq2 : 100 ≤ q.level2 ∧ q.level2 ≤ 9999) : checkPrice true e = some (some q) := by
  simp [checkPrice, hp, h1, h2, hq1, hq2]

/-- The entries are accepted and make this set: each grade's entry is its price, or its absence, in the set (R78). -/
def PriceSet.MadeFrom (set : PriceSet) (isDefined : Grade → Bool) (es : PerGrade RawPrice) : Prop :=
  ∀ g, checkPrice (isDefined g) (es.get g) = some (set.get g)

theorem firstFaultyGrade_of_made {set : PriceSet} {d : Grade → Bool} {es : PerGrade RawPrice}
    (h : set.MadeFrom d es) : firstFaultyGrade d es = none := by
  simp [firstFaultyGrade, h _]

theorem priceSetOf_of_made {set : PriceSet} {d : Grade → Bool} {es : PerGrade RawPrice}
    (h : set.MadeFrom d es) : priceSetOf d es = set :=
  PerGrade.ext_get fun g => by simp [priceSetOf, h g]

/-- G1 comes first, so a defined G1 left unpriced is the grade a refusal names. -/
theorem firstFaultyGrade_of_g1_unpriced {d : Grade → Bool} {es : PerGrade RawPrice} (hd : d .g1 = true)
    (he : (es.get .g1).priced = 0) : firstFaultyGrade d es = some .g1 := by
  simp [firstFaultyGrade, Grade.all, hd, checkPrice_defined_unpriced he]

section
variable {s : State} {es : PerGrade RawPrice} {set : PriceSet}

@[simp] theorem State.stagedSet_bad_activation : s.stagedSet false es = .error 0 := rfl

theorem State.stagedSet_of_faulty {g : Grade} (h : firstFaultyGrade s.sus.definedForPrices es = some g) :
    s.stagedSet true es = .error g.number := by
  simp [State.stagedSet, h]

theorem State.stagedSet_of_made (h : set.MadeFrom s.sus.definedForPrices es) : s.stagedSet true es = .ok set := by
  simp [State.stagedSet, firstFaultyGrade_of_made h, priceSetOf_of_made h]

end

theorem nextGeneration_eq (g : Nat) : nextGeneration g = if g < 65535 then g + 1 else 1 := by
  unfold nextGeneration
  split <;> split <;> omega

/-! ### A panel refreshed (R85, R86) -/

section
variable (s : State)

@[simp] theorem State.setField_module_same (m : ModuleId) (p : FieldPos) (x : Field) :
    (s.setField m p x).module m = { s.module m with fields := (s.module m).fields.set p x } := by
  simp [State.setField]

@[simp] theorem State.setField_module_of_ne (m k : ModuleId) (p : FieldPos) (x : Field) (h : k ≠ m) :
    (s.setField m p x).module k = s.module k := by
  simp [State.setField, h]

@[simp] theorem State.clearPanel_module (m k : ModuleId) : (s.clearPanel m).module k = s.module k := by
  simp [State.module]

theorem State.clearPanel_panel_pru (f : Fp) :
    (s.clearPanel f.panel).pru = { s.pru with panelVerified := s.pru.panelVerified.set f none } := by
  simp [State.clearPanel]

@[simp] theorem State.markField_module_same (m : ModuleId) (p : FieldPos) :
    (s.markField m p).module m =
      { s.module m with fields := (s.module m).fields.set p ((s.field m p).mark s.miu.clock) } := by
  simp [State.markField]

@[simp] theorem State.markField_module_of_ne (m k : ModuleId) (p : FieldPos) (h : k ≠ m) :
    (s.markField m p).module k = s.module k := by
  simp [State.markField, h]

theorem State.markField_panel_pru (f : Fp) (p : FieldPos) :
    (s.markField f.panel p).pru = { s.pru with panelVerified := s.pru.panelVerified.set f none } := by
  simp [State.markField, State.clearPanel_panel_pru]

theorem State.markModule_dirty (m : ModuleId) (p : FieldPos) : ((s.markModule m).field m p).dirty = true := by
  cases p <;> simp [State.markModule, State.field, PerField.get, PerField.set, Field.mark]

theorem State.markModule_module_of_ne (m k : ModuleId) (h : k ≠ m) : (s.markModule m).module k = s.module k := by
  simp [State.markModule, h]

theorem State.markModule_panel_pru (f : Fp) :
    (s.markModule f.panel).pru = { s.pru with panelVerified := s.pru.panelVerified.set f none } := by
  simp [State.markModule, State.markField_panel_pru]

theorem State.putPanelWanted_module_of_ne (f : Fp) (k : ModuleId) (h : k ≠ f.panel) :
    (s.putPanelWanted f).module k = s.module k := by
  simp [State.putPanelWanted, Nozzle.all, h]

theorem State.refreshPanel_dirty (f : Fp) (p : FieldPos) : ((s.refreshPanel f).field f.panel p).dirty = true :=
  State.markModule_dirty _ _ _

theorem State.refreshPanel_module_of_ne (f : Fp) (k : ModuleId) (h : k ≠ f.panel) :
    (s.refreshPanel f).module k = s.module k := by
  simp [State.refreshPanel, State.markModule_module_of_ne, State.putPanelWanted_module_of_ne, h]

theorem State.refreshPanel_pru (f : Fp) :
    (s.refreshPanel f).pru = { s.pru with panelVerified := s.pru.panelVerified.set f none } := by
  simp [State.refreshPanel, State.markModule_panel_pru]

end

/-! ### Adoption (R83, R85) -/

section
variable (s : State) (f : Fp)

theorem State.adopt_pru :
    (s.adopt f).pru = { s.pru with panelVerified := s.pru.panelVerified.set f none } := by
  simp [State.adopt, State.refreshPanel_pru]

theorem State.adopt_fp_same : (s.adopt f).fp f = { s.fp f with appliedGen := s.pru.generation } := by
  simp [State.adopt, State.fp, State.setFp]

theorem State.adopt_fp_of_ne {g : Fp} (h : g ≠ f) : (s.adopt f).fp g = s.fp g := by
  simp [State.adopt, State.fp, State.setFp, h]

/-- What a new generation leaves of a fueling point: in a sale its adoption is due and its context kept; elsewhere its
applied generation is `generation`, its panel dirty in every field and proved at none (R83, R85). -/
structure State.TookGeneration (t s : State) (generation : Nat) (f : Fp) : Prop where
  deferred : s.inSale f = true → t.pru.adoptionDue.get f = true ∧ t.fp f = s.fp f
  adopted : s.inSale f = false → (t.fp f).appliedGen = generation ∧ (t.fp f).state = (s.fp f).state ∧
    t.pru.panelVerified.get f = none ∧ ∀ p, (t.field f.panel p).dirty = true

theorem State.takeGeneration_took : (s.takeGeneration f).TookGeneration s s.pru.generation f where
  deferred h := by simp [State.takeGeneration, h]
  adopted h := by
    have dirty : ∀ p, ((s.adopt f).field f.panel p).dirty = true := State.refreshPanel_dirty _ f
    simp [State.takeGeneration, h, State.adopt_fp_same, State.adopt_pru, dirty]

/-- Taking a generation leaves the current set, its number and the pending set as they are. -/
theorem State.takeGeneration_set :
    (s.takeGeneration f).pru.current = s.pru.current ∧ (s.takeGeneration f).pru.pendingSet = s.pru.pendingSet ∧
      (s.takeGeneration f).pru.generation = s.pru.generation := by
  unfold State.takeGeneration
  split <;> simp [State.adopt_pru]

/-- What a fueling point holds of prices: its context, its adoption due mark, its panel and the panel's proof. -/
def State.SamePriceSide (t s : State) (g : Fp) : Prop :=
  t.fp g = s.fp g ∧ t.pru.adoptionDue.get g = s.pru.adoptionDue.get g ∧
    t.pru.panelVerified.get g = s.pru.panelVerified.get g ∧ t.module g.panel = s.module g.panel

theorem State.takeGeneration_other {g : Fp} (h : g ≠ f) : (s.takeGeneration f).SamePriceSide s g := by
  unfold State.takeGeneration
  split
  · simp [State.SamePriceSide, h]
  · have same : (s.adopt f).module g.panel = s.module g.panel :=
      State.refreshPanel_module_of_ne _ f _ (Fp.panel_ne h)
    simp [State.SamePriceSide, State.adopt_fp_of_ne s f h, State.adopt_pru, same, h]

end

/-- What a fueling point took stays while its price side stays. -/
theorem State.TookGeneration.of_same {s t u : State} {n : Nat} {f : Fp} (h : t.TookGeneration s n f)
    (hu : u.SamePriceSide t f) : u.TookGeneration s n f := by
  obtain ⟨hfp, hdue, hproof, hpanel⟩ := hu
  constructor
  · simpa only [hfp, hdue] using h.deferred
  · simpa only [hfp, hproof, State.field, hpanel] using h.adopted

/-- What a fueling point took does not depend on anything before but its context. -/
theorem State.TookGeneration.from_same {s r t : State} {n : Nat} {f : Fp} (h : t.TookGeneration s n f)
    (hr : s.fp f = r.fp f) : t.TookGeneration r n f := by
  constructor
  · simpa only [State.inSale, hr] using h.deferred
  · simpa only [State.inSale, hr] using h.adopted

/-! ### Activation (R82) -/

@[simp] theorem Nu.get_put_same (n : Nu) (k : NoticeKind) (x : Notice) : (n.put k x).get k = x := by
  simp [Nu.get, Nu.put, Vector.get_eq_getElem]

section
variable (s : State) (set : PriceSet)

theorem State.makeCurrent_pru :
    (s.makeCurrent set).pru =
      { s.pru with current := set, pendingSet := none, generation := nextGeneration s.pru.generation } := rfl

theorem State.activate_set :
    (s.activate set).pru.current = set ∧ (s.activate set).pru.pendingSet = none ∧
      (s.activate set).pru.generation = nextGeneration s.pru.generation := by
  simp [State.activate, State.takeGeneration_set, State.makeCurrent_pru]

theorem State.activate_notice :
    (s.activate set).nu.get .priceApplied = (s.nu.get .priceApplied).raised := by
  simp [State.activate, State.makeCurrent, State.raise]

/-- Each fueling point takes the next generation; FP2's taking it leaves FP1's side alone. -/
theorem State.activate_took (f : Fp) :
    (s.activate set).TookGeneration s (nextGeneration s.pru.generation) f := by
  have before : ∀ g, ((s.makeCurrent set).askWriteUnlessLost).fp g = s.fp g := fun g => by simp [State.fp]
  have gen : ((s.makeCurrent set).askWriteUnlessLost).pru.generation = nextGeneration s.pru.generation := by
    simp [State.makeCurrent_pru]
  cases f with
  | fp1 =>
    have took := State.takeGeneration_took ((s.makeCurrent set).askWriteUnlessLost) .fp1
    rw [gen] at took
    exact (took.of_same (State.takeGeneration_other _ .fp2 (by decide))).from_same (before .fp1)
  | fp2 =>
    have took := State.takeGeneration_took (((s.makeCurrent set).askWriteUnlessLost).takeGeneration .fp1) .fp2
    obtain ⟨-, -, kept⟩ := State.takeGeneration_set ((s.makeCurrent set).askWriteUnlessLost) .fp1
    rw [kept, gen] at took
    obtain ⟨same, -⟩ :=
      State.takeGeneration_other ((s.makeCurrent set).askWriteUnlessLost) .fp1 (g := .fp2) (by decide)
    exact took.from_same (same.trans (before .fp2))

end

/-! ### A message taken and answered (R202 to R204) -/

section
variable {s t : State} {kind : Byte} {request : Request} {answer : State → Answer} {r : Result} {b : Body}

theorem State.take_message (h : s.takesRequests) :
    s.take (State.message kind request answer) =
      .next ((answer (s.withClp s.clp.hunt)).taken (some request) kind) := by
  obtain ⟨live, free, awake⟩ := h
  rw [State.take_of_free live, State.message_of_ready free awake]

/-- A reply made at once leaves the link answering. -/
theorem State.reply_taken {c : Clp} (h : t.clp = c.hunt) :
    (t.reply r b).taken (some request) kind = t.withClp (c.answering request (replyKind kind) r b 0) := by
  simp [State.reply, Answer.taken, Answer.outstanding, h, Clp.hunt, Clp.open_, Clp.answering]

/-- A reply with no other effect answers the request and changes nothing else. -/
theorem State.reply_taken_hunt :
    ((s.withClp s.clp.hunt).reply r b).taken (some request) kind = s.answered request (replyKind kind) r b :=
  State.reply_taken rfl

end

/-! ### STAGE_PRICES and CANCEL_PRICES (R78 to R80) -/

section
variable {s : State} {seconds : BitVec 24} {es : PerGrade RawPrice} {set : PriceSet}

theorem exec_cancelPrices (h : s.takesRequests) :
    exec .cancelPrices s =
      .next ((State.answerCancelPrices (s.withClp s.clp.hunt)).taken (some .cancelPrices) 0x21) :=
  State.take_message h

theorem exec_stagePricesAt (h : s.takesRequests) :
    exec (.stagePricesAt seconds es) s =
      .next ((State.answerStagePricesAt seconds es (s.withClp s.clp.hunt)).taken
        (some (.stagePrices 1 seconds es)) 0x20) :=
  State.take_message h

theorem exec_stagePricesNow (h : s.takesRequests) :
    exec (.stagePricesNow seconds es) s =
      .next ((State.answerStagePricesNow es (s.withClp s.clp.hunt)).taken (some (.stagePrices 0 seconds es)) 0x20) :=
  State.take_message h

theorem State.answerCancelPrices_of_pending (h : s.pru.pendingSet.isSome) :
    s.answerCancelPrices = (s.withPru { s.pru with pendingSet := none }).reply .ok .none := by
  simp [State.answerCancelPrices, h, State.code]

theorem State.answerCancelPrices_of_none (h : s.pru.pendingSet = none) :
    s.answerCancelPrices = s.reply .already .none := by
  simp [State.answerCancelPrices, h, State.code]

theorem State.answerStagePricesAt_of_bad_seconds (h : 86400 ≤ seconds.toNat) :
    State.answerStagePricesAt seconds es s = s.reply .badField (.faultyGrade 0) := by
  simp [State.answerStagePricesAt, Nat.not_lt.mpr h]

theorem State.answerStagePricesAt_of_made (hs : seconds.toNat < 86400) (h : set.MadeFrom s.sus.definedForPrices es) :
    State.answerStagePricesAt seconds es s =
      (s.withPru { s.pru with pendingSet := some ⟨set, seconds.toNat⟩ }).reply s.stageResult
        (.generation (nextGeneration s.pru.generation)) := by
  simp [State.answerStagePricesAt, hs, State.stagedSet_of_made h]

theorem State.answerStagePricesNow_of_faulty {g : Grade} (h : firstFaultyGrade s.sus.definedForPrices es = some g) :
    State.answerStagePricesNow es s = s.reply .badField (.faultyGrade g.number) := by
  simp [State.answerStagePricesNow, State.stagedSet_of_faulty h]

theorem State.answerStagePricesNow_of_made (h : set.MadeFrom s.sus.definedForPrices es) :
    State.answerStagePricesNow es s =
      (s.activate set).replyWritten s s.stageResult (.generation (s.activate set).pru.generation) := by
  simp [State.answerStagePricesNow, State.stagedSet_of_made h]

/-- An accepted NOW set is activated on the state whose receiver hunts again, and the link then holds the reply, whose
sending may wait for store writes. -/
theorem exec_stagePricesNow_of_made (ht : s.takesRequests) (h : set.MadeFrom s.sus.definedForPrices es) :
    ∃ c o, exec (.stagePricesNow seconds es) s = .next (((s.withClp s.clp.hunt).activate set).withClp c) ∧
      c.outstanding = some o ∧
      o.reply = ⟨0xA0, s.stageResult, .generation (nextGeneration s.pru.generation)⟩ := by
  obtain ⟨-, -, gen⟩ := State.activate_set (s.withClp s.clp.hunt) set
  rw [exec_stagePricesNow ht, State.answerStagePricesNow_of_made (s := s.withClp s.clp.hunt) h, gen]
  exact ⟨_, _, rfl, rfl, rfl⟩

end

end Sys2Proof.Machine
end

section
open Sys2Proof Sys2Proof.Machine

/-- Settles O48: each message's answer is that of its case, by the entries' check; a NOW set is followed through the
activation, one fueling point after the other. -/
theorem pricesAreStagedAndCancelled : Obligations.PricesAreStagedAndCancelled := by
  intro seconds es next s takes hnext
  have hnext : next = nextGeneration s.pru.generation := by rw [hnext, nextGeneration_eq]
  refine ⟨fun pending => ?_, fun empty => ?_, fun late => ?_, fun defined unpriced => ?_, fun set entries => ?_⟩
  · rw [exec_cancelPrices takes, State.answerCancelPrices_of_pending (s := s.withClp s.clp.hunt) pending,
      State.reply_taken rfl]
    rfl
  · rw [exec_cancelPrices takes, State.answerCancelPrices_of_none (s := s.withClp s.clp.hunt) empty,
      State.reply_taken_hunt]
    rfl
  · rw [exec_stagePricesAt takes, State.answerStagePricesAt_of_bad_seconds late, State.reply_taken_hunt]
    rfl
  · have faulty : firstFaultyGrade (s.withClp s.clp.hunt).sus.definedForPrices es = some .g1 :=
      firstFaultyGrade_of_g1_unpriced defined unpriced
    rw [exec_stagePricesNow takes, State.answerStagePricesNow_of_faulty faulty, State.reply_taken_hunt]
    rfl
  · have made : set.MadeFrom s.sus.definedForPrices es := fun g => by
      have entry := entries g
      cases hg : set.get g with
      | none =>
        simp only [hg] at entry
        obtain ⟨undefined, unpriced⟩ := entry
        rw [undefined, checkPrice_undefined_unpriced unpriced]
      | some q =>
        simp only [hg] at entry
        obtain ⟨defined, priced, h1, h2, low1, high1, low2, high2⟩ := entry
        rw [defined, checkPrice_defined_priced priced h1 h2 ⟨low1, high1⟩ ⟨low2, high2⟩]
    refine ⟨fun early => ?_, ?_⟩
    · rw [exec_stagePricesAt takes, State.answerStagePricesAt_of_made (s := s.withClp s.clp.hunt) early made,
        State.reply_taken rfl, hnext]
      rfl
    · obtain ⟨c, o, run, link, reply⟩ := exec_stagePricesNow_of_made takes made
      obtain ⟨current, pending, gen⟩ := State.activate_set (s.withClp s.clp.hunt) set
      have took := State.activate_took (s.withClp s.clp.hunt) set
      subst hnext
      refine ⟨_, run, current, pending, gen, State.activate_notice _ set,
        fun f => ⟨(took f).deferred, (took f).adopted⟩, ⟨o, link, reply⟩, ?_⟩
      simp
end

section
/-! PROOFS. The reader link: what a switch-off of the reader domain leaves, the checks of a policy, the control
messages READER_RELEASE to SET_READER_POLICY. -/

namespace Sys2Proof.Machine

/-! ### A request answered at once (R202 to R204) -/

section
variable {s : State} {kind : Byte} {request : Request} {answer : State → Answer} {r : Result} {b : Body}

theorem State.take_answered (h : s.takesRequests)
    (ha : answer (s.withClp s.clp.hunt) = (s.withClp s.clp.hunt).reply r b) :
    s.take (State.message kind request answer) = .next (s.answered request (replyKind kind) r b) := by
  rw [State.take_message h, ha, State.reply_taken_hunt]

theorem State.take_answered_withRiu {u : Riu} (h : s.takesRequests)
    (ha : answer (s.withClp s.clp.hunt) = ((s.withClp s.clp.hunt).withRiu u).reply r b) :
    s.take (State.message kind request answer) =
      .next { s.answered request (replyKind kind) r b with riu := u } := by
  rw [State.take_message h, ha, State.reply_taken rfl]
  rfl

/-- An answer outside CLOSING is taken with no shutting test (R166). -/
theorem State.takeFp_message (h : s.takesRequests)
    (notClosing : (answer (s.withClp s.clp.hunt)).state.sps.seq ≠ .closing) :
    s.takeFp (State.message kind request answer) =
      .next ((answer (s.withClp s.clp.hunt)).taken (some request) kind) := by
  obtain ⟨live, free, awake⟩ := h
  rw [State.takeFp_of_free live, State.message_of_ready free awake, State.afterFp_of_not_closing]
  exact notClosing

/-- A reply with no other effect moves no fueling point, so it makes no shutting test (R166). -/
theorem State.takeFp_answered (h : s.takesRequests)
    (ha : answer (s.withClp s.clp.hunt) = (s.withClp s.clp.hunt).reply r b) :
    s.takeFp (State.message kind request answer) = .next (s.answered request (replyKind kind) r b) := by
  obtain ⟨live, free, awake⟩ := h
  rw [State.takeFp_of_free live, State.message_of_ready free awake, ha, State.reply_taken_hunt,
    State.afterFp_of_same]
  exact fun _ => rfl

/-- How many store writes a reply waits for: all in hand, if the message asked for one (R204). -/
def State.writesAwaited (t before : State) : Nat := if before.sus.writes < t.sus.writes then t.sus.writes else 0

/-- A reply that may wait for store writes leaves the link answering. -/
theorem State.replyWritten_taken {t before : State} {c : Clp} (h : t.clp = c.hunt) :
    (t.replyWritten before r b).taken (some request) kind =
      t.withClp (c.answering request (replyKind kind) r b (t.writesAwaited before)) := by
  simp [State.replyWritten, State.writesAwaited, Answer.taken, Answer.outstanding, h, Clp.hunt, Clp.open_,
    Clp.answering]

end

/-! ### READER_RELEASE (R122) -/

section
variable {s : State}

theorem State.answerReaderRelease_of_fenced (h : s.riu.link = .fenced) :
    s.answerReaderRelease = (s.withRiu s.riu.released).reply .ok .none := by
  simp [State.answerReaderRelease, h, State.code]

theorem State.answerReaderRelease_of_not_fenced (h : s.riu.link ≠ .fenced) :
    s.answerReaderRelease = s.reply .wrongState .none := by
  simp [State.answerReaderRelease, h, State.code]

end

/-! ### The link at a switch-off (R120, R132) -/

/-- What a switch-off, and the pushes offered to the link after it, leave of the link `r`. -/
structure Riu.OffFrom (t r : Riu) : Prop where
  link : t.link = .off
  queue : t.queue = []
  sendErrors : t.sendErrors = 0
  recvErrors : t.recvErrors = 0
  holdoff : t.holdoff = r.holdoff
  passThrough : t.passThrough = r.passThrough
  policy : t.policy = r.policy

theorem Riu.emptyQueue_keeps (r : Riu) :
    r.emptyQueue.queue = [] ∧ r.emptyQueue.holdoff = r.holdoff ∧ r.emptyQueue.passThrough = r.passThrough ∧
      r.emptyQueue.policy = r.policy := by
  unfold Riu.emptyQueue Riu.endText
  split <;> exact ⟨rfl, rfl, rfl, rfl⟩

theorem Riu.switchedOff_offFrom (r : Riu) : r.switchedOff.OffFrom r := by
  obtain ⟨queue, holdoff, passThrough, policy⟩ := r.emptyQueue_keeps
  exact ⟨rfl, queue, rfl, rfl, holdoff, passThrough, policy⟩

/-- A push offered in OFF is lost: only its count changes (R132). -/
theorem Riu.offer_of_off {r : Riu} (f : ReaderFrame) (h : r.link = .off) : r.offer f = r.losePush := by
  simp [Riu.offer, Riu.refusesPush, h]

theorem Riu.OffFrom.offer {t r : Riu} (h : t.OffFrom r) (f : ReaderFrame) : (t.offer f).OffFrom r := by
  rw [Riu.offer_of_off f h.link]
  exact ⟨h.link, h.queue, h.sendErrors, h.recvErrors, h.holdoff, h.passThrough, h.policy⟩

/-! ### Reader-owned authorizations dropped (R48, R120) -/

section
variable {s : State} {f : Fp} {cause : DropCause}

theorem Fpc.armedByReader_iff {c : Fpc} :
    c.armedByReader = true ↔ c.state = .armed ∧ ∃ a, c.auth = some a ∧ a.owner = .reader := by
  simp [Fpc.armedByReader]

/-- A fueling point keeps its authorization, or holds one in ARMED owned by the reader, which is dropped. -/
theorem State.dropReader_cases (s : State) (f : Fp) (cause : DropCause) :
    s.dropReader f cause = s ∨
      ∃ a, (s.fp f).auth = some a ∧ a.owner = .reader ∧ s.dropReader f cause = s.drop f cause := by
  unfold State.dropReader
  split
  · next armed =>
    obtain ⟨-, a, held, owned⟩ := Fpc.armedByReader_iff.mp armed
    exact .inr ⟨a, held, owned, rfl⟩
  · exact .inl rfl

theorem State.dropReader_other : (s.dropReader f cause).fp f.other = s.fp f.other := by
  obtain same | ⟨a, held, -, drop⟩ := s.dropReader_cases f cause
  · rw [same]
  · obtain ⟨-, other, -⟩ := State.drop_spec cause held
    rw [drop, other]

theorem State.dropReader_slot_free {k : Fin 32} (h : s.sj.slot k = none) :
    (s.dropReader f cause).sj.slot k = none := by
  obtain same | ⟨a, held, -, drop⟩ := s.dropReader_cases f cause
  · rw [same, h]
  · obtain ⟨-, -, freed, -⟩ := State.drop_spec cause held
    rw [drop, freed.slots, h, ite_self]

theorem State.dropReader_offFrom {r : Riu} (h : s.riu.OffFrom r) : (s.dropReader f cause).riu.OffFrom r := by
  obtain same | ⟨a, held, owned, drop⟩ := s.dropReader_cases f cause
  · rwa [same]
  · obtain ⟨-, -, -, -, offered⟩ := State.drop_spec cause held
    rw [drop, offered, if_pos owned]
    exact h.offer _

/-- A fueling point without the reader-owned authorization it held, whose slot is FREE. -/
def State.Dropped (t : State) (f : Fp) (a : Auth) : Prop := (t.fp f).auth = none ∧ t.sj.slot a.slot = none

theorem State.dropReader_dropped {a : Auth} (armed : (s.fp f).state = .armed) (held : (s.fp f).auth = some a)
    (owned : a.owner = .reader) : (s.dropReader f cause).Dropped f a := by
  have drop : s.dropReader f cause = s.drop f cause := if_pos (Fpc.armedByReader_iff.mpr ⟨armed, a, held, owned⟩)
  obtain ⟨context, -, freed, -⟩ := State.drop_spec cause held
  obtain ⟨noAuth, -⟩ := (s.fp f).dropped_spec
  exact ⟨by rw [drop, context, noAuth], by rw [drop, freed.slots, if_pos rfl]⟩

/-- The other fueling point's drop leaves a dropped authorization dropped. -/
theorem State.Dropped.dropReader_other {a : Auth} (h : s.Dropped f.other a) :
    (s.dropReader f cause).Dropped f.other a := by
  obtain ⟨noAuth, free⟩ := h
  exact ⟨by rw [State.dropReader_other, noAuth], State.dropReader_slot_free free⟩

theorem State.dropReaders_dropped {a : Auth} (armed : (s.fp f).state = .armed) (held : (s.fp f).auth = some a)
    (owned : a.owner = .reader) : (s.dropReaders cause).Dropped f a := by
  cases f with
  | fp1 => exact State.Dropped.dropReader_other (f := .fp2) (State.dropReader_dropped armed held owned)
  | fp2 =>
    have same : (s.dropReader .fp1 cause).fp .fp2 = s.fp .fp2 := State.dropReader_other
    exact State.dropReader_dropped (same ▸ armed) (same ▸ held) owned

theorem State.dropReaders_offFrom {r : Riu} (h : s.riu.OffFrom r) : (s.dropReaders cause).riu.OffFrom r :=
  State.dropReader_offFrom (State.dropReader_offFrom h)

end

/-! ### READER_POWER_CYCLE (R120, R124) -/

section
variable {s : State}

theorem State.domainOff_cycling_sps :
    (s.domainOff .cycling).sps = { s.sps with domain := .cycling, cycleTimer := some 2000000 } := by
  simp [State.domainOff, sec]

theorem State.domainOff_offFrom (dest : Domain) : (s.domainOff dest).riu.OffFrom s.riu :=
  State.dropReaders_offFrom s.riu.switchedOff_offFrom

theorem State.domainOff_dropped {f : Fp} {a : Auth} (dest : Domain) (armed : (s.fp f).state = .armed)
    (held : (s.fp f).auth = some a) (owned : a.owner = .reader) : (s.domainOff dest).Dropped f a :=
  State.dropReaders_dropped armed held owned

theorem State.answerReaderPowerCycle_of_on (h : s.sps.domain = .on) :
    s.answerReaderPowerCycle = (s.domainOff .cycling).reply .ok .none := by
  simp [State.answerReaderPowerCycle, h, State.code]

theorem State.answerReaderPowerCycle_of_cycling (h : s.sps.domain = .cycling) :
    s.answerReaderPowerCycle = s.reply .already .none := by
  simp [State.answerReaderPowerCycle, h, State.code]

theorem State.answerReaderPowerCycle_of_off (h : s.sps.domain = .off) :
    s.answerReaderPowerCycle = s.reply .wrongState .none := by
  simp [State.answerReaderPowerCycle, h, State.code]

/-- With the domain ON, the message is the switch-off on the state whose receiver hunts again, and its reply. -/
theorem exec_readerPowerCycle_of_on (h : s.takesRequests) (on : s.sps.domain = .on) (notClosing : s.sps.seq ≠ .closing) :
    exec .readerPowerCycle s =
      .next (((s.withClp s.clp.hunt).domainOff .cycling).withClp
        (s.clp.answering .readerPowerCycle 0xC2 .ok .none 0)) := by
  have answer : (s.withClp s.clp.hunt).answerReaderPowerCycle = _ := State.answerReaderPowerCycle_of_on on
  have seq : (s.withClp s.clp.hunt).answerReaderPowerCycle.state.sps.seq ≠ .closing := by
    rw [answer]
    simpa [State.reply, State.domainOff_cycling_sps] using notClosing
  have run := State.takeFp_message (kind := 0x42#8) (request := .readerPowerCycle) h seq
  rw [answer, State.reply_taken (c := s.clp) (by simp)] at run
  exact run

end

/-! ### SEND_TO_READER and ABORT_TO_READER (R133, R135) -/

section
variable {s : State} {text : List Byte}

theorem nextText_eq (n : Nat) : nextText n = if n < 255 then n + 1 else 1 := by
  unfold nextText
  split <;> split <;> omega

theorem LinkState.sendsQueue_iff {l : LinkState} : l.sendsQueue = true ↔ l = .active ∨ l = .warning := by
  cases l <;> simp [LinkState.sendsQueue]

theorem State.answerSendToReader_of_long (h : 32 < text.length) :
    State.answerSendToReader text s = s.reply .badField .none := by
  simp [State.answerSendToReader, h, State.code]

theorem State.answerSendToReader_of_not_sending (short : text.length ≤ 32) (h : s.riu.link.sendsQueue = false) :
    State.answerSendToReader text s = s.reply .wrongState .none := by
  simp [State.answerSendToReader, Nat.not_lt.mpr short, h, State.code]

theorem State.answerSendToReader_of_busy (short : text.length ≤ 32) (h : s.riu.link.sendsQueue = true)
    (busy : s.riu.textStage ≠ .none ∨ 8 ≤ s.riu.queue.length) :
    State.answerSendToReader text s = s.reply .busy .none := by
  rw [State.answerSendToReader, if_neg (Nat.not_lt.mpr short), if_neg (by simp [h])]
  split
  · rfl
  · next empty =>
    have full : s.riu.hasRoom = false := by simpa [Riu.hasRoom] using busy.resolve_left empty
    rw [if_pos full, State.code]

theorem State.answerSendToReader_of_free (short : text.length ≤ 32) (h : s.riu.link.sendsQueue = true)
    (empty : s.riu.textStage = .none) (room : s.riu.queue.length < 8) :
    State.answerSendToReader text s =
      (s.withRiu (s.riu.queueText text)).reply .ok (.textNumber (nextText s.riu.textCounter)) := by
  simp [State.answerSendToReader, Nat.not_lt.mpr short, h, empty, Riu.hasRoom, room]

theorem OutEntry.isText_eq_false {e : OutEntry} (h : ∀ m y, e ≠ .frame (.hostText m y)) : e.isText = false := by
  unfold OutEntry.isText
  split
  · next m y => exact absurd rfl (h m y)
  · rfl

/-- The one text of a queue leaves it, and the entries behind it close up (R135). -/
theorem Riu.abortText_of_split {r : Riu} {before after : List OutEntry} {n : Nat} {x : List Byte}
    (h : r.queue = before ++ .frame (.hostText n x) :: after)
    (others : ∀ e, e ∈ before ++ after → ∀ m y, e ≠ .frame (.hostText m y)) :
    r.abortText = { r with queue := before ++ after, textStage := .none, completion := .aborted } := by
  have left : r.queue.filter (fun e => !e.isText) = before ++ after :=
    calc r.queue.filter (fun e => !e.isText)
        = (before ++ after).filter (fun e => !e.isText) := by simp [h, OutEntry.isText]
      _ = before ++ after :=
        List.filter_eq_self.mpr fun e he => by simp [OutEntry.isText_eq_false (others e he)]
  simp only [Riu.abortText, left]

theorem State.answerAbortToReader_of_queued (h : s.riu.textStage = .queued) :
    s.answerAbortToReader = (s.withRiu s.riu.abortText).reply .ok .none := by
  simp [State.answerAbortToReader, h, State.code]

theorem State.answerAbortToReader_of_sent (h : s.riu.textStage = .sent) :
    s.answerAbortToReader = s.reply .busy .none := by
  simp [State.answerAbortToReader, h, State.code]

theorem State.answerAbortToReader_of_none (h : s.riu.textStage = .none) :
    s.answerAbortToReader = s.reply .already .none := by
  simp [State.answerAbortToReader, h, State.code]

end

/-! ### READ_PASSTHROUGH and CLEAR_OVERRUN (R137) -/

section
variable {s : State}

theorem State.answerReadPassthrough_of_empty (h : s.riu.passThrough = []) :
    s.answerReadPassthrough = s.reply .noEntry .none := by
  simp [State.answerReadPassthrough, h, State.code]

theorem State.answerReadPassthrough_of_cons {p : PromptEntry} {rest : List PromptEntry}
    (h : s.riu.passThrough = p :: rest) :
    s.answerReadPassthrough =
      (s.withRiu { s.riu with passThrough := rest }).reply .ok (.promptRead p rest.length) := by
  simp [State.answerReadPassthrough, h]

/-- Clear already, the flag is as clearing it leaves it. -/
theorem State.answerClearOverrun_eq :
    s.answerClearOverrun = (s.withRiu { s.riu with overrun := false }).reply
      (if s.riu.overrun then .ok else .already) .none := by
  unfold State.answerClearOverrun
  split
  · rfl
  · next clear =>
    have same : { s.riu with overrun := false } = s.riu := by simp [← Bool.eq_false_iff.mpr clear]
    rw [same]
    rfl

end

/-! ### SET_READER_POLICY (R138, R186, R196) -/

section
variable {s : State} {kinds fps auto : Byte} {ceiling : BitVec 32}

theorem clampNat_ne_iff {lo hi n : Nat} (h : lo ≤ hi) : clampNat lo hi n ≠ n ↔ ¬ (lo ≤ n ∧ n ≤ hi) := by
  unfold clampNat
  omega

theorem checkPolicy_of_bad (h : 64 ≤ kinds.toNat ∨ 4 ≤ fps.toNat ∨ 1 < auto.toNat) :
    checkPolicy kinds fps ceiling auto = none := if_pos h

theorem checkPolicy_of_good (hk : kinds.toNat < 64) (hf : fps.toNat < 4) (ha : auto.toNat ≤ 1) :
    checkPolicy kinds fps ceiling auto = some
      ({ authReq := kinds.getLsbD 0, authCancel := kinds.getLsbD 1, saleQuery := kinds.getLsbD 2
         settle := kinds.getLsbD 3, prompt := kinds.getLsbD 4, textAck := kinds.getLsbD 5
         fps := ⟨fps.getLsbD 0, fps.getLsbD 1⟩, ceiling := min 999899 (max 100 ceiling.toNat)
         autoCycle := decide (auto.toNat = 1) },
       decide (¬ (100 ≤ ceiling.toNat ∧ ceiling.toNat ≤ 999899))) := by
  have good : ¬ (64 ≤ kinds.toNat ∨ 4 ≤ fps.toNat ∨ 1 < auto.toNat) := by omega
  simp only [checkPolicy, if_neg good, clampNat_ne_iff (show 100 ≤ 999899 by decide)]
  rfl

theorem State.answerSetReaderPolicy_of_bad (h : checkPolicy kinds fps ceiling auto = none) :
    State.answerSetReaderPolicy kinds fps ceiling auto s = s.reply .badField .none := by
  simp [State.answerSetReaderPolicy, h, State.code]

theorem State.answerSetReaderPolicy_of_good {p : Policy} {clamped : Bool}
    (h : checkPolicy kinds fps ceiling auto = some (p, clamped)) :
    State.answerSetReaderPolicy kinds fps ceiling auto s =
      ((s.withRiu { s.riu with policy := p }).askWriteUnlessLost).replyWritten s
        (if clamped then .okClamped else .ok) .none := by
  simp [State.answerSetReaderPolicy, h]

/-- A write asked for touches the write in progress alone (R186). -/
theorem State.askWrite_eq (s : State) :
    s.askWrite = s.withSus { s.sus with writing := s.askWrite.sus.writing } := by
  unfold State.askWrite
  split <;> rfl

theorem State.askWrite_writes (s : State) : s.askWrite.sus.writes = s.sus.writes + 1 := by
  unfold State.askWrite
  split <;> next h => simp [Sus.writes, h]

theorem State.askWriteUnlessLost_of_lost (h : s.sus.settingsLost = true) : s.askWriteUnlessLost = s := if_pos h

theorem State.askWriteUnlessLost_of_kept (h : s.sus.settingsLost = false) : s.askWriteUnlessLost = s.askWrite :=
  if_neg (by simp [h])

theorem State.askWriteUnlessLost_eq (s : State) :
    s.askWriteUnlessLost = s.withSus { s.sus with writing := s.askWriteUnlessLost.sus.writing } := by
  cases settings : s.sus.settingsLost with
  | true => rw [State.askWriteUnlessLost_of_lost settings]; rfl
  | false => rw [State.askWriteUnlessLost_of_kept settings]; exact s.askWrite_eq

theorem Sus.writing_isSome_of_writes_pos {u : Sus} (h : 0 < u.writes) : u.writing.isSome := by
  unfold Sus.writes at h
  split at h
  · exact absurd h (lt_irrefl 0)
  · next hw => rw [hw]; rfl

/-- With the settings lost no write is asked for, and the reply waits for none (R196). -/
theorem State.askWriteUnlessLost_awaits_of_lost {before : State} (same : before.sus = s.sus)
    (h : s.sus.settingsLost = true) :
    s.askWriteUnlessLost.writesAwaited before = 0 ∧
      s.askWriteUnlessLost.sus.writing = s.sus.writing := by
  rw [State.askWriteUnlessLost_of_lost h]
  simp [State.writesAwaited, same]

/-- Otherwise the reply waits until the write asked for is made (R204). -/
theorem State.askWriteUnlessLost_awaits_of_kept {before : State} (same : before.sus = s.sus)
    (h : s.sus.settingsLost = false) :
    0 < s.askWriteUnlessLost.writesAwaited before ∧
      s.askWriteUnlessLost.sus.writing.isSome := by
  rw [State.askWriteUnlessLost_of_kept h]
  have more := s.askWrite_writes
  exact ⟨by simp [State.writesAwaited, same, more], Sus.writing_isSome_of_writes_pos (by omega)⟩

/-- An accepted policy is in force at once; unless the settings are lost a store write is asked for, and the reply
waits for it. -/
theorem exec_setReaderPolicy_of_good {p : Policy} {clamped : Bool} (h : s.takesRequests)
    (hp : checkPolicy kinds fps ceiling auto = some (p, clamped)) :
    ∃ t n, exec (.setReaderPolicy kinds fps ceiling auto) s = .next t ∧
      t = { s with
        clp := s.clp.answering (.setReaderPolicy kinds fps ceiling auto) 0xC7
          (if clamped then .okClamped else .ok) .none n
        riu := { s.riu with policy := p }
        sus := { s.sus with writing := t.sus.writing } } ∧
      (s.sus.settingsLost = true → n = 0 ∧ t.sus.writing = s.sus.writing) ∧
      (s.sus.settingsLost = false → 0 < n ∧ t.sus.writing.isSome) := by
  have run : exec (.setReaderPolicy kinds fps ceiling auto) s = _ := State.take_message h
  rw [State.answerSetReaderPolicy_of_good hp, State.replyWritten_taken (c := s.clp) (by simp)] at run
  have same : (s.withClp s.clp.hunt).sus = ((s.withClp s.clp.hunt).withRiu { s.riu with policy := p }).sus := rfl
  refine ⟨_, _, run, ?_, State.askWriteUnlessLost_awaits_of_lost same, State.askWriteUnlessLost_awaits_of_kept same⟩
  rw [State.askWriteUnlessLost_eq]
  rfl

end

end Sys2Proof.Machine
end

section
open Sys2Proof Sys2Proof.Machine

/-- Settles O50: each message's answer is that of its case; a power-cycle is followed through the switch-off and the
drops of both fueling points, a policy through its check and the store write it asks for. -/
theorem readerMessagesAct : Obligations.ReaderMessagesAct := by
  intro text kinds fps ceiling auto number s takes hnumber
  have hnumber : nextText s.riu.textCounter = number := by rw [hnumber, nextText_eq]
  refine ⟨fun fenced => State.take_answered_withRiu takes (State.answerReaderRelease_of_fenced fenced),
    fun unfenced => State.take_answered takes (State.answerReaderRelease_of_not_fenced unfenced),
    fun off => State.takeFp_answered takes (State.answerReaderPowerCycle_of_off off),
    fun cycling => State.takeFp_answered takes (State.answerReaderPowerCycle_of_cycling cycling),
    fun on notClosing => ?powerCycle,
    fun long => State.take_answered takes (State.answerSendToReader_of_long long),
    fun short notActive notWarning => ?sendElsewhere, fun short sending => ?send,
    fun sent => State.take_answered takes (State.answerAbortToReader_of_sent sent),
    fun empty => State.take_answered takes (State.answerAbortToReader_of_none empty),
    fun before after n x queued queue others => ?abort,
    fun empty => State.take_answered takes (State.answerReadPassthrough_of_empty empty),
    fun p rest prompts => State.take_answered_withRiu takes (State.answerReadPassthrough_of_cons prompts),
    State.take_answered_withRiu takes State.answerClearOverrun_eq,
    fun bad => State.take_answered takes (State.answerSetReaderPolicy_of_bad (checkPolicy_of_bad bad)),
    fun goodKinds goodFps goodAuto => ?policy⟩
  case powerCycle =>
    obtain ⟨link, queue, send, recv, holdoff, prompts, policy⟩ :=
      State.domainOff_offFrom (s := s.withClp s.clp.hunt) .cycling
    exact ⟨_, exec_readerPowerCycle_of_on takes on notClosing, rfl, State.domainOff_cycling_sps, link, queue, send, recv,
      holdoff, prompts, policy, fun f a armed held owned =>
        State.domainOff_dropped (s := s.withClp s.clp.hunt) .cycling armed held owned⟩
  case sendElsewhere =>
    have silent : s.riu.link.sendsQueue = false :=
      Bool.eq_false_iff.mpr fun sends => (LinkState.sendsQueue_iff.mp sends).elim notActive notWarning
    exact State.take_answered takes (State.answerSendToReader_of_not_sending short silent)
  case send =>
    have sends : s.riu.link.sendsQueue = true := LinkState.sendsQueue_iff.mpr sending
    subst hnumber
    exact ⟨fun busy => State.take_answered takes (State.answerSendToReader_of_busy short sends busy),
      fun empty room => State.take_answered_withRiu takes (State.answerSendToReader_of_free short sends empty room)⟩
  case abort =>
    rw [← Riu.abortText_of_split queue others]
    exact State.take_answered_withRiu takes (State.answerAbortToReader_of_queued queued)
  case policy =>
    have accepted := exec_setReaderPolicy_of_good takes
      (checkPolicy_of_good (ceiling := ceiling) goodKinds goodFps goodAuto)
    simpa only [decide_eq_true_eq, ite_not] using accepted
end
